-- ==== Sys2Proof/Word.lean ====
section
/-! DEFINITION. The 16-bit word of the machine and the mark UNDEFINED a state cell may hold.
Notation: spec/00_scope.md R6, R7, R19. -/

namespace Sys2Proof

/-- One 16-bit word: a register, a memory cell, a bus transfer, an instruction (R23, R100). -/
abbrev Word := BitVec 16

/-- What a state cell holds (R19): "either a defined bit vector or the mark UNDEFINED".
`undefined` stands for no chosen value: a read that only moves or computes data passes the mark on,
and a read that steers the machine takes a free value (Machine/Ops.lean, log 6). -/
inductive Val (α : Type) where
  /-- A defined value. -/
  | known (a : α)
  /-- The mark UNDEFINED. -/
  | undefined
deriving DecidableEq, Repr

/-- An output computed from one input: UNDEFINED when the input is (R19). -/
def Val.map {α β : Type} (f : α → β) : Val α → Val β
  | .known a => .known (f a)
  | .undefined => .undefined

/-- An output computed from two inputs: UNDEFINED when either input is (R19). -/
def Val.map2 {α β γ : Type} (f : α → β → γ) : Val α → Val β → Val γ
  | .known a, .known b => .known (f a b)
  | _, _ => .undefined

/-- A read whose place is itself a cell's value: UNDEFINED place, UNDEFINED value (R19). -/
def Val.bind {α β : Type} (x : Val α) (f : α → Val β) : Val β :=
  match x with
  | .known a => f a
  | .undefined => .undefined

/-- The defined value, or the free value `d` in the place of the mark. -/
def Val.getD {α : Type} (x : Val α) (d : α) : α :=
  match x with
  | .known a => a
  | .undefined => d

/-- Whether the cell holds a defined value. -/
def Val.isKnown {α : Type} : Val α → Bool
  | .known _ => true
  | .undefined => false

end Sys2Proof
end

