-- ==== Sys2Proof/Config.lean ====
section
/-! DEFINITION. What an implementation fixes (spec/00_scope.md R5) and the free values of the spec. -/

namespace Sys2Proof

/-- One transaction on the external bus, as it is recorded (R82, R83). An address or a datum that
was UNDEFINED is recorded as UNDEFINED (spec/93 U2 (a), (b)). -/
inductive BusEvent where
  /-- A load cycle: the bus was asked at `addr` and answered `data`. -/
  | read (addr data : Val Word)
  /-- A store cycle: `data` was sent to `addr`. -/
  | write (addr data : Val Word)
deriving DecidableEq, Repr

namespace Config

/-- `RESET_PC`: "At reset, PC ← 0x0000, but this value can be changed by the implementation" (R34; log 5). -/
def resetPc : Word := 0x0000#16

/-- `RESET_W`: "At reset, W ← 0xFFF8, but this value can be changed by the implementation" (R43; log 5). -/
def resetW : Word := 0xFFF8#16

/-- `EXT_ORACLE` at its default, unconstrained: what the bus answers to a read at `addr` after the transactions `history`, where
the host has supplied no answer (R82; log 14). Every answer is recorded, so no two reads of a run share a history. -/
opaque extOracle (history : List BusEvent) (addr : Word) : Word

/-- The free words: the `n`-th value used where an UNDEFINED word steers the machine (R19; log 6). -/
opaque freeWord (n : Nat) : Word

/-- The free bits: the `n`-th value used where an UNDEFINED condition steers a branch (R19, R240; log 9). -/
opaque freeBit (n : Nat) : Bool

end Config

/-! ## The parameters (R5) -/

/-- The word addresses from `first` to `last`, both among them. -/
structure AddrRange where
  first : Word
  last : Word
deriving DecidableEq, Repr

/-- Whether an address is in the range. -/
def AddrRange.holds (r : AddrRange) (a : Word) : Bool := decide (r.first.toNat ≤ a.toNat) && decide (a.toNat ≤ r.last.toNat)

/-- The parameters that the running machine reads (R5). No instruction changes them (log 32). -/
structure Platform where
  /-- `IMM_AL_3`, entry 3 of the immediate table (R14), "TBD" in the source; not supplied by default (D12; log 13). -/
  immAl3 : Option Word := none
  /-- `MEM_POPULATED`, the words of `mem` that exist; by default all of them (R77, D7; log 17). -/
  memPopulated : List AddrRange := [{ first := 0x0000#16, last := 0xFFFF#16 }]
deriving DecidableEq, Repr

namespace Machine

/-- The four result flags (R45), each a defined bit or UNDEFINED. They are no status word: no instruction reads or
writes them as a group. -/
structure Flags where
  /-- Z (R46). -/
  z : Val Bool
  /-- S (R47). -/
  s : Val Bool
  /-- C (R48). -/
  c : Val Bool
  /-- V (R49). -/
  v : Val Bool
deriving DecidableEq, Repr

end Machine

/-- All the parameters, which the host supplies before a run (R5, R347), each with its default. -/
structure Params extends Platform where
  /-- `RESET_PC` (R34, D2). -/
  resetPc : Word := Config.resetPc
  /-- `RESET_W` (R43); `State.boot` refuses a value that is no multiple of 8 (R42, D3). -/
  resetW : Word := Config.resetW
  /-- `MEM_INIT`: the words of `mem` before the first fetch, each with its address; every other word is UNDEFINED (R76, D6).
  Where an address stands twice, its first word is the one taken. -/
  memInit : List (Word × Word) := []
  /-- `EXT_ORACLE`, as far as the host supplies it: the answers to the first read cycles, in order (R82, D16; log 14). -/
  busAnswers : List Word := []
  /-- `RESET_FLAGS` (D4; log 3). -/
  resetFlags : Machine.Flags := { z := .undefined, s := .undefined, c := .undefined, v := .undefined }
  /-- `RESET_HAS_EXT13` (D5; log 4). -/
  resetHasExt13 : Bool := false
deriving DecidableEq, Repr

end Sys2Proof
end

