-- ==== Sys2Proof/Syntax.lean ====
section
/-! DEFINITION. The instructions: one constructor per row of spec/opcode_table.json, its operands the
fields of the row (R111), in the order of the assembly line (R130). Twelve rows are second names of another
row's words (R124, R133); they have constructors of their own, which the decoder never yields (log 26). -/

namespace Sys2Proof

/-- The instructions of R120 and the alias mnemonics of R124. -/
inductive Instr where
  -- arithmetic (spec/40)
  /-- ADD (R141). -/
  | add (rd ra rb : BitVec 3)
  /-- ADDI (R142). -/
  | addi (rd ra : BitVec 3) (imm : BitVec 3)
  /-- ADC (R143). -/
  | adc (rd ra rb : BitVec 3)
  /-- ADCI (R144). -/
  | adci (rd ra : BitVec 3) (imm : BitVec 3)
  /-- SUB (R145). -/
  | sub (rd ra rb : BitVec 3)
  /-- SUBI (R146). -/
  | subi (rd ra : BitVec 3) (imm : BitVec 3)
  /-- SBC (R147). -/
  | sbc (rd ra rb : BitVec 3)
  /-- SBCI (R148). -/
  | sbci (rd ra : BitVec 3) (imm : BitVec 3)
  /-- CMP (R149). -/
  | cmp (ra rb : BitVec 3)
  /-- CMPI (R150). -/
  | cmpi (ra : BitVec 3) (imm : BitVec 3)
  -- logic (spec/41)
  /-- AND (R161). -/
  | and (rd ra rb : BitVec 3)
  /-- ANDI (R162). -/
  | andi (rd ra : BitVec 3) (imm : BitVec 3)
  /-- OR (R163). -/
  | or (rd ra rb : BitVec 3)
  /-- ORI (R164). -/
  | ori (rd ra : BitVec 3) (imm : BitVec 3)
  /-- XOR (R165). -/
  | xor (rd ra rb : BitVec 3)
  /-- XORI (R166). -/
  | xori (rd ra : BitVec 3) (imm : BitVec 3)
  -- shift and rotate (spec/42)
  /-- SLL (R171). -/
  | sll (rd ra rb : BitVec 3)
  /-- SLLI (R172). -/
  | slli (rd ra : BitVec 3) (imm : BitVec 3)
  /-- SRL (R173). -/
  | srl (rd ra rb : BitVec 3)
  /-- SRLI (R174). -/
  | srli (rd ra : BitVec 3) (imm : BitVec 3)
  /-- SRA (R175). -/
  | sra (rd ra rb : BitVec 3)
  /-- SRAI (R176). -/
  | srai (rd ra : BitVec 3) (imm : BitVec 3)
  /-- ROL (R177). -/
  | rol (rd ra rb : BitVec 3)
  /-- ROLI (R178). -/
  | roli (rd ra : BitVec 3) (imm : BitVec 3)
  -- register transfer (spec/43)
  /-- MOVI (R192). -/
  | movi (rd : BitVec 3) (imm : BitVec 8)
  /-- MOVR (R193). -/
  | movr (rd : BitVec 3) (off : BitVec 8)
  /-- EXTI (R195). -/
  | exti (imm : BitVec 13)
  /-- NOP (R196). -/
  | nop
  -- window (spec/44)
  /-- ADJW (R201). -/
  | adjw (imm : BitVec 5)
  /-- LDW (R202). -/
  | ldw (rd : BitVec 3) (imm : BitVec 5)
  /-- STW (R203). -/
  | stw (rb : BitVec 3)
  /-- XCHW (R204). -/
  | xchw (rd rb : BitVec 3)
  -- memory (spec/45)
  /-- LD (R211). -/
  | ld (rd ra : BitVec 3) (off : BitVec 5)
  /-- LDR (R212). -/
  | ldr (rd ra : BitVec 3) (off : BitVec 5)
  /-- ST (R213). -/
  | st (rs ra : BitVec 3) (off : BitVec 5)
  /-- STR (R214). -/
  | str (rs ra : BitVec 3) (off : BitVec 5)
  -- external bus (spec/46)
  /-- LDX (R221). -/
  | ldx (rd ra : BitVec 3) (off : BitVec 5)
  /-- LDXA (R222). -/
  | ldxa (rd : BitVec 3) (off : BitVec 8)
  /-- STX (R223). -/
  | stx (rs ra : BitVec 3) (off : BitVec 5)
  /-- STXA (R224). -/
  | stxa (rs : BitVec 3) (off : BitVec 8)
  -- unconditional control (spec/47)
  /-- J (R231). -/
  | j (off : BitVec 8)
  /-- JAL (R232). -/
  | jal (rd : BitVec 3) (off : BitVec 8)
  /-- JR (R233). -/
  | jr (rs : BitVec 3) (off : BitVec 5)
  /-- JRAL (R234). -/
  | jral (rd rb : BitVec 3)
  /-- JST (R235). -/
  | jst (rs : BitVec 3) (off : BitVec 5)
  /-- JVT (R236). -/
  | jvt (rs : BitVec 3) (off : BitVec 5)
  -- conditional control (spec/48)
  /-- BEQ (R241; same words as BZ1). -/
  | beq (off : BitVec 8)
  /-- BGTS (R242). -/
  | bgts (off : BitVec 8)
  /-- BGTU (R243). -/
  | bgtu (off : BitVec 8)
  /-- BGES (R244). -/
  | bges (off : BitVec 8)
  /-- BGEU (R245; same words as BC1). -/
  | bgeu (off : BitVec 8)
  /-- BLES (R246). -/
  | bles (off : BitVec 8)
  /-- BLEU (R247). -/
  | bleu (off : BitVec 8)
  /-- BLTS (R248). -/
  | blts (off : BitVec 8)
  /-- BLTU (R249; same words as BC0). -/
  | bltu (off : BitVec 8)
  /-- BNE (R250; same words as BZ0). -/
  | bne (off : BitVec 8)
  /-- BZ (R251; same words as BZ1). -/
  | bz (off : BitVec 8)
  /-- BNZ (R252; same words as BZ0). -/
  | bnz (off : BitVec 8)
  /-- BS (R253; same words as BS1). -/
  | bs (off : BitVec 8)
  /-- BNS (R254; same words as BS0). -/
  | bns (off : BitVec 8)
  /-- BC (R255; same words as BC1). -/
  | bc (off : BitVec 8)
  /-- BNC (R256; same words as BC0). -/
  | bnc (off : BitVec 8)
  /-- BV (R257; same words as BV1). -/
  | bv (off : BitVec 8)
  /-- BNV (R258; same words as BV0). -/
  | bnv (off : BitVec 8)
  /-- BZ1 (R259). -/
  | bz1 (off : BitVec 8)
  /-- BZ0 (R260). -/
  | bz0 (off : BitVec 8)
  /-- BS1 (R261). -/
  | bs1 (off : BitVec 8)
  /-- BS0 (R262). -/
  | bs0 (off : BitVec 8)
  /-- BC1 (R263). -/
  | bc1 (off : BitVec 8)
  /-- BC0 (R264). -/
  | bc0 (off : BitVec 8)
  /-- BV1 (R265). -/
  | bv1 (off : BitVec 8)
  /-- BV0 (R266). -/
  | bv0 (off : BitVec 8)
deriving DecidableEq, Repr

/-- The decoder's name of an instruction: an alias mnemonic stands for the flag-named branch with the same
word (R124, R133); every other instruction is its own name. -/
def Instr.canonical : Instr → Instr
  | .beq off => .bz1 off
  | .bgeu off => .bc1 off
  | .bltu off => .bc0 off
  | .bne off => .bz0 off
  | .bz off => .bz1 off
  | .bnz off => .bz0 off
  | .bs off => .bs1 off
  | .bns off => .bs0 off
  | .bc off => .bc1 off
  | .bnc off => .bc0 off
  | .bv off => .bv1 off
  | .bnv off => .bv0 off
  | .add rd ra rb => .add rd ra rb
  | .addi rd ra imm => .addi rd ra imm
  | .adc rd ra rb => .adc rd ra rb
  | .adci rd ra imm => .adci rd ra imm
  | .sub rd ra rb => .sub rd ra rb
  | .subi rd ra imm => .subi rd ra imm
  | .sbc rd ra rb => .sbc rd ra rb
  | .sbci rd ra imm => .sbci rd ra imm
  | .cmp ra rb => .cmp ra rb
  | .cmpi ra imm => .cmpi ra imm
  | .and rd ra rb => .and rd ra rb
  | .andi rd ra imm => .andi rd ra imm
  | .or rd ra rb => .or rd ra rb
  | .ori rd ra imm => .ori rd ra imm
  | .xor rd ra rb => .xor rd ra rb
  | .xori rd ra imm => .xori rd ra imm
  | .sll rd ra rb => .sll rd ra rb
  | .slli rd ra imm => .slli rd ra imm
  | .srl rd ra rb => .srl rd ra rb
  | .srli rd ra imm => .srli rd ra imm
  | .sra rd ra rb => .sra rd ra rb
  | .srai rd ra imm => .srai rd ra imm
  | .rol rd ra rb => .rol rd ra rb
  | .roli rd ra imm => .roli rd ra imm
  | .movi rd imm => .movi rd imm
  | .movr rd off => .movr rd off
  | .exti imm => .exti imm
  | .nop => .nop
  | .adjw imm => .adjw imm
  | .ldw rd imm => .ldw rd imm
  | .stw rb => .stw rb
  | .xchw rd rb => .xchw rd rb
  | .ld rd ra off => .ld rd ra off
  | .ldr rd ra off => .ldr rd ra off
  | .st rs ra off => .st rs ra off
  | .str rs ra off => .str rs ra off
  | .ldx rd ra off => .ldx rd ra off
  | .ldxa rd off => .ldxa rd off
  | .stx rs ra off => .stx rs ra off
  | .stxa rs off => .stxa rs off
  | .j off => .j off
  | .jal rd off => .jal rd off
  | .jr rs off => .jr rs off
  | .jral rd rb => .jral rd rb
  | .jst rs off => .jst rs off
  | .jvt rs off => .jvt rs off
  | .bgts off => .bgts off
  | .bgtu off => .bgtu off
  | .bges off => .bges off
  | .bles off => .bles off
  | .bleu off => .bleu off
  | .blts off => .blts off
  | .bz1 off => .bz1 off
  | .bz0 off => .bz0 off
  | .bs1 off => .bs1 off
  | .bs0 off => .bs0 off
  | .bc1 off => .bc1 off
  | .bc0 off => .bc0 off
  | .bv1 off => .bv1 off
  | .bv0 off => .bv0 off

end Sys2Proof
end

