-- ==== Sys2Proof/WellFormed.lean ====
section
/-! DEFINITION. Which instruction terms are machine instructions. Every operand is a bit field of its exact width,
so no operand can be out of range; the one check is that the term is the decoder's name of its word. -/

namespace Sys2Proof

/-- `false` exactly for the twelve alias mnemonics: the hardware cannot tell a second name from the canonical one
(R124), so no word decodes to it (log 26). -/
def Instr.wellFormed : Instr → Bool
  | .add _ _ _ => true
  | .addi _ _ _ => true
  | .adc _ _ _ => true
  | .adci _ _ _ => true
  | .sub _ _ _ => true
  | .subi _ _ _ => true
  | .sbc _ _ _ => true
  | .sbci _ _ _ => true
  | .cmp _ _ => true
  | .cmpi _ _ => true
  | .and _ _ _ => true
  | .andi _ _ _ => true
  | .or _ _ _ => true
  | .ori _ _ _ => true
  | .xor _ _ _ => true
  | .xori _ _ _ => true
  | .sll _ _ _ => true
  | .slli _ _ _ => true
  | .srl _ _ _ => true
  | .srli _ _ _ => true
  | .sra _ _ _ => true
  | .srai _ _ _ => true
  | .rol _ _ _ => true
  | .roli _ _ _ => true
  | .movi _ _ => true
  | .movr _ _ => true
  | .exti _ => true
  | .nop => true
  | .adjw _ => true
  | .ldw _ _ => true
  | .stw _ => true
  | .xchw _ _ => true
  | .ld _ _ _ => true
  | .ldr _ _ _ => true
  | .st _ _ _ => true
  | .str _ _ _ => true
  | .ldx _ _ _ => true
  | .ldxa _ _ => true
  | .stx _ _ _ => true
  | .stxa _ _ => true
  | .j _ => true
  | .jal _ _ => true
  | .jr _ _ => true
  | .jral _ _ => true
  | .jst _ _ => true
  | .jvt _ _ => true
  | .beq _ => false
  | .bgts _ => true
  | .bgtu _ => true
  | .bges _ => true
  | .bgeu _ => false
  | .bles _ => true
  | .bleu _ => true
  | .blts _ => true
  | .bltu _ => false
  | .bne _ => false
  | .bz _ => false
  | .bnz _ => false
  | .bs _ => false
  | .bns _ => false
  | .bc _ => false
  | .bnc _ => false
  | .bv _ => false
  | .bnv _ => false
  | .bz1 _ => true
  | .bz0 _ => true
  | .bs1 _ => true
  | .bs0 _ => true
  | .bc1 _ => true
  | .bc0 _ => true
  | .bv1 _ => true
  | .bv0 _ => true

end Sys2Proof
end

