-- ==== Sys2Proof/Decode.lean ====
section
/-! DEFINITION. The decoder and the encoder: spec/30_encoding.md R103 to R110 (fields and groups), R120 (the opcode map),
R121 (the procedure), R122 (the words that are no instruction). Decoding looks at one word and at nothing else. -/

namespace Sys2Proof

/-- Why a word is no listed encoding: one constructor per row of R122's table. Executing such a word is UNPREDICTABLE;
it may sit in memory as data. -/
inductive Unlisted where
  /-- Bits 15:11 = 00000, bits 4:3 = 11 (CMP), bits 10:8 not 000. -/
  | cmpRd
  /-- Bits 15:11 = 00001, bits 4:3 = 11 (CMPI), bits 10:8 not 000. -/
  | cmpiRd
  /-- Bits 15:12 = 0011. -/
  | opcode3
  /-- Bits 15:12 = 1001. -/
  | opcode9
  /-- STW with bits 10:8 not 000 or bits 4:3 not 00. -/
  | stwFields
  /-- XCHW with bits 4:3 not 00. -/
  | xchwBits
  /-- ADJW with bits 10:8 not 000. -/
  | adjwRd
  /-- JRAL with bits 4:3 not 00. -/
  | jralBits
  /-- Bits 15:8 = 0xB7 with bits 7:0 not 0: 0xB701 to 0xB7FF (90_conflicts.md C11). -/
  | nopOffset
  /-- Bits 15:13 = 111. -/
  | opcode7
deriving DecidableEq, Repr

/-! ## Fields (R104 to R110) -/

/-- Bits 10:8: Rd, or Rs where the register is only read. -/
def fieldD (w : Word) : BitVec 3 := w.extractLsb' 8 3
/-- Bits 7:5: Ra. -/
def fieldA (w : Word) : BitVec 3 := w.extractLsb' 5 3
/-- Bits 2:0: Rb, or imm3. -/
def fieldB (w : Word) : BitVec 3 := w.extractLsb' 0 3
/-- Bits 4:3: the type of formats R3 and I3, the literal bits of format C. -/
def fieldType (w : Word) : BitVec 2 := w.extractLsb' 3 2
/-- Bits 4:0: off5 or imm5. -/
def field5 (w : Word) : BitVec 5 := w.extractLsb' 0 5
/-- Bits 7:0: off8 or imm8. -/
def field8 (w : Word) : BitVec 8 := w.extractLsb' 0 8
/-- Bits 12:0: imm13. -/
def field13 (w : Word) : BitVec 13 := w.extractLsb' 0 13
/-- Bits 15:11: the major opcode (R103). -/
def fieldMajor (w : Word) : BitVec 5 := w.extractLsb' 11 5
/-- Bits 11:8 of format B: F and cond (R109). -/
def fieldCond (w : Word) : BitVec 4 := w.extractLsb' 8 4

/-! ## Groups of the major opcode (R103) -/

/-- Major opcode 00000 (R104). -/
def decodeLogic (w : Word) : Except Unlisted Instr :=
  match (fieldType w).toNat with
  | 0b00 => .ok (.and (fieldD w) (fieldA w) (fieldB w))
  | 0b01 => .ok (.or (fieldD w) (fieldA w) (fieldB w))
  | 0b10 => .ok (.xor (fieldD w) (fieldA w) (fieldB w))
  | _ => if fieldD w = 0b000#3 then .ok (.cmp (fieldA w) (fieldB w)) else .error .cmpRd

/-- Major opcode 00001 (R105). -/
def decodeLogicImm (w : Word) : Except Unlisted Instr :=
  match (fieldType w).toNat with
  | 0b00 => .ok (.andi (fieldD w) (fieldA w) (fieldB w))
  | 0b01 => .ok (.ori (fieldD w) (fieldA w) (fieldB w))
  | 0b10 => .ok (.xori (fieldD w) (fieldA w) (fieldB w))
  | _ => if fieldD w = 0b000#3 then .ok (.cmpi (fieldA w) (fieldB w)) else .error .cmpiRd

/-- Major opcode 00010 (R104). -/
def decodeArith (w : Word) : Instr :=
  match (fieldType w).toNat with
  | 0b00 => .add (fieldD w) (fieldA w) (fieldB w)
  | 0b01 => .adc (fieldD w) (fieldA w) (fieldB w)
  | 0b10 => .sub (fieldD w) (fieldA w) (fieldB w)
  | _ => .sbc (fieldD w) (fieldA w) (fieldB w)

/-- Major opcode 00011 (R105). -/
def decodeArithImm (w : Word) : Instr :=
  match (fieldType w).toNat with
  | 0b00 => .addi (fieldD w) (fieldA w) (fieldB w)
  | 0b01 => .adci (fieldD w) (fieldA w) (fieldB w)
  | 0b10 => .subi (fieldD w) (fieldA w) (fieldB w)
  | _ => .sbci (fieldD w) (fieldA w) (fieldB w)

/-- Major opcode 00100 (R104). -/
def decodeShift (w : Word) : Instr :=
  match (fieldType w).toNat with
  | 0b00 => .sll (fieldD w) (fieldA w) (fieldB w)
  | 0b01 => .rol (fieldD w) (fieldA w) (fieldB w)
  | 0b10 => .srl (fieldD w) (fieldA w) (fieldB w)
  | _ => .sra (fieldD w) (fieldA w) (fieldB w)

/-- Major opcode 00101 (R105). -/
def decodeShiftImm (w : Word) : Instr :=
  match (fieldType w).toNat with
  | 0b00 => .slli (fieldD w) (fieldA w) (fieldB w)
  | 0b01 => .roli (fieldD w) (fieldA w) (fieldB w)
  | 0b10 => .srli (fieldD w) (fieldA w) (fieldB w)
  | _ => .srai (fieldD w) (fieldA w) (fieldB w)

/-- Major opcode 10100, the sub-opcode in bits 7:5 (R108). -/
def decodeControl (w : Word) : Except Unlisted Instr :=
  match (fieldA w).toNat with
  | 0b000 => if fieldD w = 0b000#3 ∧ fieldType w = 0b00#2 then .ok (.stw (fieldB w)) else .error .stwFields
  | 0b001 => if fieldType w = 0b00#2 then .ok (.xchw (fieldD w) (fieldB w)) else .error .xchwBits
  | 0b010 => if fieldD w = 0b000#3 then .ok (.adjw (field5 w)) else .error .adjwRd
  | 0b011 => .ok (.ldw (fieldD w) (field5 w))
  | 0b100 => .ok (.jr (fieldD w) (field5 w))
  | 0b101 => if fieldType w = 0b00#2 then .ok (.jral (fieldD w) (fieldB w)) else .error .jralBits
  | 0b110 => .ok (.jvt (fieldD w) (field5 w))
  | _ => .ok (.jst (fieldD w) (field5 w))

/-- Bits 15:12 = 1011: F and cond in bits 11:8 (R109). -/
def decodeBranch (w : Word) : Except Unlisted Instr :=
  match (fieldCond w).toNat with
  | 0b0000 => .ok (.bz0 (field8 w))
  | 0b0001 => .ok (.bs0 (field8 w))
  | 0b0010 => .ok (.bc0 (field8 w))
  | 0b0011 => .ok (.bv0 (field8 w))
  | 0b0100 => .ok (.bgtu (field8 w))
  | 0b0101 => .ok (.bges (field8 w))
  | 0b0110 => .ok (.bgts (field8 w))
  | 0b0111 => if field8 w = 0x00#8 then .ok .nop else .error .nopOffset
  | 0b1000 => .ok (.bz1 (field8 w))
  | 0b1001 => .ok (.bs1 (field8 w))
  | 0b1010 => .ok (.bc1 (field8 w))
  | 0b1011 => .ok (.bv1 (field8 w))
  | 0b1100 => .ok (.bleu (field8 w))
  | 0b1101 => .ok (.blts (field8 w))
  | 0b1110 => .ok (.bles (field8 w))
  | _ => .ok (.j (field8 w))

/-- The decoding procedure (R121), by major opcode (R103): the instruction, or why the word is none (R122). -/
def decode (w : Word) : Except Unlisted Instr :=
  match (fieldMajor w).toNat with
  | 0b00000 => decodeLogic w
  | 0b00001 => decodeLogicImm w
  | 0b00010 => .ok (decodeArith w)
  | 0b00011 => .ok (decodeArithImm w)
  | 0b00100 => .ok (decodeShift w)
  | 0b00101 => .ok (decodeShiftImm w)
  | 0b00110 => .error .opcode3
  | 0b00111 => .error .opcode3
  | 0b01000 => .ok (.ld (fieldD w) (fieldA w) (field5 w))
  | 0b01001 => .ok (.ldr (fieldD w) (fieldA w) (field5 w))
  | 0b01010 => .ok (.st (fieldD w) (fieldA w) (field5 w))
  | 0b01011 => .ok (.str (fieldD w) (fieldA w) (field5 w))
  | 0b01100 => .ok (.ldx (fieldD w) (fieldA w) (field5 w))
  | 0b01101 => .ok (.ldxa (fieldD w) (field8 w))
  | 0b01110 => .ok (.stx (fieldD w) (fieldA w) (field5 w))
  | 0b01111 => .ok (.stxa (fieldD w) (field8 w))
  | 0b10000 => .ok (.movi (fieldD w) (field8 w))
  | 0b10001 => .ok (.movr (fieldD w) (field8 w))
  | 0b10010 => .error .opcode9
  | 0b10011 => .error .opcode9
  | 0b10100 => decodeControl w
  | 0b10101 => .ok (.jal (fieldD w) (field8 w))
  | 0b10110 => decodeBranch w
  | 0b10111 => decodeBranch w
  | 0b11000 => .ok (.exti (field13 w))
  | 0b11001 => .ok (.exti (field13 w))
  | 0b11010 => .ok (.exti (field13 w))
  | 0b11011 => .ok (.exti (field13 w))
  | _ => .error .opcode7

/-- The host's reading of an opcode-table row: the instruction in the word whose bits are `w`, if it is one.
Every instruction is one word (R100), so `nbits` is 16; bits it does not give are 0. -/
def decodeTableWord (nbits w : Nat) : Option Instr :=
  match decode (BitVec.ofNat 16 (w % 2 ^ nbits)) with
  | .ok i => some i
  | .error _ => none

/-! ## The encoder -/

/-- Formats R3 and I3 (R104, R105). -/
def encodeR3 (major : BitVec 5) (d a : BitVec 3) (type : BitVec 2) (b : BitVec 3) : Word := major ++ d ++ a ++ type ++ b
/-- Format M5, and the rows of format C with a 5-bit field, whose sub-opcode stands in the place of Ra (R106, R108). -/
def encodeM5 (major : BitVec 5) (d a : BitVec 3) (f : BitVec 5) : Word := major ++ d ++ a ++ f
/-- Format I8 (R107). -/
def encodeI8 (major : BitVec 5) (d : BitVec 3) (f : BitVec 8) : Word := major ++ d ++ f
/-- Format B (R109). -/
def encodeB (cond : BitVec 4) (off : BitVec 8) : Word := 0b1011#4 ++ cond ++ off
/-- Format E (R110). -/
def encodeE (imm : BitVec 13) : Word := 0b110#3 ++ imm

/-- The word of an instruction (R120). An alias mnemonic gives its canonical instruction's word (R133). -/
def encode : Instr → Word
  | .add rd ra rb => encodeR3 0b00010#5 rd ra 0b00#2 rb
  | .addi rd ra imm => encodeR3 0b00011#5 rd ra 0b00#2 imm
  | .adc rd ra rb => encodeR3 0b00010#5 rd ra 0b01#2 rb
  | .adci rd ra imm => encodeR3 0b00011#5 rd ra 0b01#2 imm
  | .sub rd ra rb => encodeR3 0b00010#5 rd ra 0b10#2 rb
  | .subi rd ra imm => encodeR3 0b00011#5 rd ra 0b10#2 imm
  | .sbc rd ra rb => encodeR3 0b00010#5 rd ra 0b11#2 rb
  | .sbci rd ra imm => encodeR3 0b00011#5 rd ra 0b11#2 imm
  | .cmp ra rb => encodeR3 0b00000#5 0b000#3 ra 0b11#2 rb
  | .cmpi ra imm => encodeR3 0b00001#5 0b000#3 ra 0b11#2 imm
  | .and rd ra rb => encodeR3 0b00000#5 rd ra 0b00#2 rb
  | .andi rd ra imm => encodeR3 0b00001#5 rd ra 0b00#2 imm
  | .or rd ra rb => encodeR3 0b00000#5 rd ra 0b01#2 rb
  | .ori rd ra imm => encodeR3 0b00001#5 rd ra 0b01#2 imm
  | .xor rd ra rb => encodeR3 0b00000#5 rd ra 0b10#2 rb
  | .xori rd ra imm => encodeR3 0b00001#5 rd ra 0b10#2 imm
  | .sll rd ra rb => encodeR3 0b00100#5 rd ra 0b00#2 rb
  | .slli rd ra imm => encodeR3 0b00101#5 rd ra 0b00#2 imm
  | .srl rd ra rb => encodeR3 0b00100#5 rd ra 0b10#2 rb
  | .srli rd ra imm => encodeR3 0b00101#5 rd ra 0b10#2 imm
  | .sra rd ra rb => encodeR3 0b00100#5 rd ra 0b11#2 rb
  | .srai rd ra imm => encodeR3 0b00101#5 rd ra 0b11#2 imm
  | .rol rd ra rb => encodeR3 0b00100#5 rd ra 0b01#2 rb
  | .roli rd ra imm => encodeR3 0b00101#5 rd ra 0b01#2 imm
  | .movi rd imm => encodeI8 0b10000#5 rd imm
  | .movr rd off => encodeI8 0b10001#5 rd off
  | .exti imm => encodeE imm
  | .nop => encodeB 0b0111#4 0x00#8
  | .adjw imm => encodeM5 0b10100#5 0b000#3 0b010#3 imm
  | .ldw rd imm => encodeM5 0b10100#5 rd 0b011#3 imm
  | .stw rb => encodeR3 0b10100#5 0b000#3 0b000#3 0b00#2 rb
  | .xchw rd rb => encodeR3 0b10100#5 rd 0b001#3 0b00#2 rb
  | .ld rd ra off => encodeM5 0b01000#5 rd ra off
  | .ldr rd ra off => encodeM5 0b01001#5 rd ra off
  | .st rs ra off => encodeM5 0b01010#5 rs ra off
  | .str rs ra off => encodeM5 0b01011#5 rs ra off
  | .ldx rd ra off => encodeM5 0b01100#5 rd ra off
  | .ldxa rd off => encodeI8 0b01101#5 rd off
  | .stx rs ra off => encodeM5 0b01110#5 rs ra off
  | .stxa rs off => encodeI8 0b01111#5 rs off
  | .j off => encodeB 0b1111#4 off
  | .jal rd off => encodeI8 0b10101#5 rd off
  | .jr rs off => encodeM5 0b10100#5 rs 0b100#3 off
  | .jral rd rb => encodeR3 0b10100#5 rd 0b101#3 0b00#2 rb
  | .jst rs off => encodeM5 0b10100#5 rs 0b111#3 off
  | .jvt rs off => encodeM5 0b10100#5 rs 0b110#3 off
  | .beq off => encodeB 0b1000#4 off
  | .bgts off => encodeB 0b0110#4 off
  | .bgtu off => encodeB 0b0100#4 off
  | .bges off => encodeB 0b0101#4 off
  | .bgeu off => encodeB 0b1010#4 off
  | .bles off => encodeB 0b1110#4 off
  | .bleu off => encodeB 0b1100#4 off
  | .blts off => encodeB 0b1101#4 off
  | .bltu off => encodeB 0b0010#4 off
  | .bne off => encodeB 0b0000#4 off
  | .bz off => encodeB 0b1000#4 off
  | .bnz off => encodeB 0b0000#4 off
  | .bs off => encodeB 0b1001#4 off
  | .bns off => encodeB 0b0001#4 off
  | .bc off => encodeB 0b1010#4 off
  | .bnc off => encodeB 0b0010#4 off
  | .bv off => encodeB 0b1011#4 off
  | .bnv off => encodeB 0b0011#4 off
  | .bz1 off => encodeB 0b1000#4 off
  | .bz0 off => encodeB 0b0000#4 off
  | .bs1 off => encodeB 0b1001#4 off
  | .bs0 off => encodeB 0b0001#4 off
  | .bc1 off => encodeB 0b1010#4 off
  | .bc0 off => encodeB 0b0010#4 off
  | .bv1 off => encodeB 0b1011#4 off
  | .bv0 off => encodeB 0b0011#4 off

/-! ## The opcode map as the spec prints it (R120) -/

/-- One row of R120: a word `w` is the row's instruction if `w &&& mask = pattern`. -/
structure OpcodeRow where
  /-- The row's `match` column. -/
  pattern : Word
  /-- The row's `mask` column. -/
  mask : Word
deriving DecidableEq, Repr

/-- Whether a word is the row's instruction. -/
def OpcodeRow.matches (r : OpcodeRow) (w : Word) : Bool := w &&& r.mask == r.pattern

/-- The row of each mnemonic, an alias row with its canonical row's values (R120, R124). -/
def Instr.row : Instr → OpcodeRow
  | .add _ _ _ => ⟨0x1000#16, 0xF818#16⟩
  | .addi _ _ _ => ⟨0x1800#16, 0xF818#16⟩
  | .adc _ _ _ => ⟨0x1008#16, 0xF818#16⟩
  | .adci _ _ _ => ⟨0x1808#16, 0xF818#16⟩
  | .sub _ _ _ => ⟨0x1010#16, 0xF818#16⟩
  | .subi _ _ _ => ⟨0x1810#16, 0xF818#16⟩
  | .sbc _ _ _ => ⟨0x1018#16, 0xF818#16⟩
  | .sbci _ _ _ => ⟨0x1818#16, 0xF818#16⟩
  | .cmp _ _ => ⟨0x0018#16, 0xFF18#16⟩
  | .cmpi _ _ => ⟨0x0818#16, 0xFF18#16⟩
  | .and _ _ _ => ⟨0x0000#16, 0xF818#16⟩
  | .andi _ _ _ => ⟨0x0800#16, 0xF818#16⟩
  | .or _ _ _ => ⟨0x0008#16, 0xF818#16⟩
  | .ori _ _ _ => ⟨0x0808#16, 0xF818#16⟩
  | .xor _ _ _ => ⟨0x0010#16, 0xF818#16⟩
  | .xori _ _ _ => ⟨0x0810#16, 0xF818#16⟩
  | .sll _ _ _ => ⟨0x2000#16, 0xF818#16⟩
  | .slli _ _ _ => ⟨0x2800#16, 0xF818#16⟩
  | .srl _ _ _ => ⟨0x2010#16, 0xF818#16⟩
  | .srli _ _ _ => ⟨0x2810#16, 0xF818#16⟩
  | .sra _ _ _ => ⟨0x2018#16, 0xF818#16⟩
  | .srai _ _ _ => ⟨0x2818#16, 0xF818#16⟩
  | .rol _ _ _ => ⟨0x2008#16, 0xF818#16⟩
  | .roli _ _ _ => ⟨0x2808#16, 0xF818#16⟩
  | .movi _ _ => ⟨0x8000#16, 0xF800#16⟩
  | .movr _ _ => ⟨0x8800#16, 0xF800#16⟩
  | .exti _ => ⟨0xC000#16, 0xE000#16⟩
  | .nop => ⟨0xB700#16, 0xFFFF#16⟩
  | .adjw _ => ⟨0xA040#16, 0xFFE0#16⟩
  | .ldw _ _ => ⟨0xA060#16, 0xF8E0#16⟩
  | .stw _ => ⟨0xA000#16, 0xFFF8#16⟩
  | .xchw _ _ => ⟨0xA020#16, 0xF8F8#16⟩
  | .ld _ _ _ => ⟨0x4000#16, 0xF800#16⟩
  | .ldr _ _ _ => ⟨0x4800#16, 0xF800#16⟩
  | .st _ _ _ => ⟨0x5000#16, 0xF800#16⟩
  | .str _ _ _ => ⟨0x5800#16, 0xF800#16⟩
  | .ldx _ _ _ => ⟨0x6000#16, 0xF800#16⟩
  | .ldxa _ _ => ⟨0x6800#16, 0xF800#16⟩
  | .stx _ _ _ => ⟨0x7000#16, 0xF800#16⟩
  | .stxa _ _ => ⟨0x7800#16, 0xF800#16⟩
  | .j _ => ⟨0xBF00#16, 0xFF00#16⟩
  | .jal _ _ => ⟨0xA800#16, 0xF800#16⟩
  | .jr _ _ => ⟨0xA080#16, 0xF8E0#16⟩
  | .jral _ _ => ⟨0xA0A0#16, 0xF8F8#16⟩
  | .jst _ _ => ⟨0xA0E0#16, 0xF8E0#16⟩
  | .jvt _ _ => ⟨0xA0C0#16, 0xF8E0#16⟩
  | .beq _ => ⟨0xB800#16, 0xFF00#16⟩
  | .bgts _ => ⟨0xB600#16, 0xFF00#16⟩
  | .bgtu _ => ⟨0xB400#16, 0xFF00#16⟩
  | .bges _ => ⟨0xB500#16, 0xFF00#16⟩
  | .bgeu _ => ⟨0xBA00#16, 0xFF00#16⟩
  | .bles _ => ⟨0xBE00#16, 0xFF00#16⟩
  | .bleu _ => ⟨0xBC00#16, 0xFF00#16⟩
  | .blts _ => ⟨0xBD00#16, 0xFF00#16⟩
  | .bltu _ => ⟨0xB200#16, 0xFF00#16⟩
  | .bne _ => ⟨0xB000#16, 0xFF00#16⟩
  | .bz _ => ⟨0xB800#16, 0xFF00#16⟩
  | .bnz _ => ⟨0xB000#16, 0xFF00#16⟩
  | .bs _ => ⟨0xB900#16, 0xFF00#16⟩
  | .bns _ => ⟨0xB100#16, 0xFF00#16⟩
  | .bc _ => ⟨0xBA00#16, 0xFF00#16⟩
  | .bnc _ => ⟨0xB200#16, 0xFF00#16⟩
  | .bv _ => ⟨0xBB00#16, 0xFF00#16⟩
  | .bnv _ => ⟨0xB300#16, 0xFF00#16⟩
  | .bz1 _ => ⟨0xB800#16, 0xFF00#16⟩
  | .bz0 _ => ⟨0xB000#16, 0xFF00#16⟩
  | .bs1 _ => ⟨0xB900#16, 0xFF00#16⟩
  | .bs0 _ => ⟨0xB100#16, 0xFF00#16⟩
  | .bc1 _ => ⟨0xBA00#16, 0xFF00#16⟩
  | .bc0 _ => ⟨0xB200#16, 0xFF00#16⟩
  | .bv1 _ => ⟨0xBB00#16, 0xFF00#16⟩
  | .bv0 _ => ⟨0xB300#16, 0xFF00#16⟩

/-- The 60 rows of R120, in its order. -/
def opcodeRows : List OpcodeRow :=
  [⟨0x0000#16, 0xF818#16⟩, ⟨0x0008#16, 0xF818#16⟩, ⟨0x0010#16, 0xF818#16⟩, ⟨0x0018#16, 0xFF18#16⟩,
   ⟨0x0800#16, 0xF818#16⟩, ⟨0x0808#16, 0xF818#16⟩, ⟨0x0810#16, 0xF818#16⟩, ⟨0x0818#16, 0xFF18#16⟩,
   ⟨0x1000#16, 0xF818#16⟩, ⟨0x1008#16, 0xF818#16⟩, ⟨0x1010#16, 0xF818#16⟩, ⟨0x1018#16, 0xF818#16⟩] ++
  [⟨0x1800#16, 0xF818#16⟩, ⟨0x1808#16, 0xF818#16⟩, ⟨0x1810#16, 0xF818#16⟩, ⟨0x1818#16, 0xF818#16⟩,
   ⟨0x2000#16, 0xF818#16⟩, ⟨0x2008#16, 0xF818#16⟩, ⟨0x2010#16, 0xF818#16⟩, ⟨0x2018#16, 0xF818#16⟩,
   ⟨0x2800#16, 0xF818#16⟩, ⟨0x2808#16, 0xF818#16⟩, ⟨0x2810#16, 0xF818#16⟩, ⟨0x2818#16, 0xF818#16⟩] ++
  [⟨0x4000#16, 0xF800#16⟩, ⟨0x4800#16, 0xF800#16⟩, ⟨0x5000#16, 0xF800#16⟩, ⟨0x5800#16, 0xF800#16⟩,
   ⟨0x6000#16, 0xF800#16⟩, ⟨0x6800#16, 0xF800#16⟩, ⟨0x7000#16, 0xF800#16⟩, ⟨0x7800#16, 0xF800#16⟩,
   ⟨0x8000#16, 0xF800#16⟩, ⟨0x8800#16, 0xF800#16⟩, ⟨0xA000#16, 0xFFF8#16⟩, ⟨0xA020#16, 0xF8F8#16⟩] ++
  [⟨0xA040#16, 0xFFE0#16⟩, ⟨0xA060#16, 0xF8E0#16⟩, ⟨0xA080#16, 0xF8E0#16⟩, ⟨0xA0A0#16, 0xF8F8#16⟩,
   ⟨0xA0C0#16, 0xF8E0#16⟩, ⟨0xA0E0#16, 0xF8E0#16⟩, ⟨0xA800#16, 0xF800#16⟩, ⟨0xB000#16, 0xFF00#16⟩,
   ⟨0xB100#16, 0xFF00#16⟩, ⟨0xB200#16, 0xFF00#16⟩, ⟨0xB300#16, 0xFF00#16⟩, ⟨0xB400#16, 0xFF00#16⟩] ++
  [⟨0xB500#16, 0xFF00#16⟩, ⟨0xB600#16, 0xFF00#16⟩, ⟨0xB700#16, 0xFFFF#16⟩, ⟨0xB800#16, 0xFF00#16⟩,
   ⟨0xB900#16, 0xFF00#16⟩, ⟨0xBA00#16, 0xFF00#16⟩, ⟨0xBB00#16, 0xFF00#16⟩, ⟨0xBC00#16, 0xFF00#16⟩,
   ⟨0xBD00#16, 0xFF00#16⟩, ⟨0xBE00#16, 0xFF00#16⟩, ⟨0xBF00#16, 0xFF00#16⟩, ⟨0xC000#16, 0xE000#16⟩]

end Sys2Proof
end

