-- ==== Sys2Proof/Machine/State.lean ====
section
/-! DEFINITION. The state of the machine (spec/10_state.md R30), its reset value (R59, R331), and the reasons a step stops. -/

namespace Sys2Proof.Machine

/-- Main memory: the defined words, as pairs of a word address and the word at it (R70: the word is the only
addressable unit, so a cell is a word and not a byte; log 1). A word that is not listed is UNDEFINED (R76; log 2).
The canonical form is `Memory.wf`. -/
abbrev Memory := List (Nat × Word)

/-- The canonical form: addresses strictly rising, the last below 65,536. No listed word can equal what an unlisted
address reads as, since that is the mark UNDEFINED and a listed word is defined. -/
def Memory.wf : Memory → Bool
  | [] => true
  | [(a, _)] => decide (a < 65536)
  | (a, _) :: (b, v) :: rest => decide (a < b) && Memory.wf ((b, v) :: rest)

/-- The whole state (R30), and what the model adds: the record of the bus, the answers it was given, the parameters and the
counter of free values. -/
structure State where
  /-- PC, the word address of the instruction (R31). -/
  pc : Word
  /-- W, the window address (R38, R40). -/
  w : Word
  /-- Z, S, C, V (R45). -/
  flags : Flags
  /-- ext13 (R52). -/
  ext13 : Val (BitVec 13)
  /-- has_ext13 (R52). -/
  hasExt13 : Bool
  /-- `mem` (R70); the general registers are words of it (R38). -/
  mem : Memory
  /-- The external-bus transactions so far, oldest first (R82, R83; log 15). -/
  bus : List BusEvent
  /-- `EXT_ORACLE`: the answers the host has supplied to the read cycles still to come, in order (R82, R347; log 14). -/
  busAnswers : List Word
  /-- The parameters `IMM_AL_3` and `MEM_POPULATED` (R5), which never change (log 32). -/
  platform : Platform
  /-- The MODEL's own: how many free values have been used (log 7). -/
  draws : Nat
deriving DecidableEq, Repr

/-- Why the machine stops: the five reasons for UNPREDICTABLE behaviour (R303), four of the source and the last the spec's own.
Each is safe: the hardware "may perform any behavior", and the model claims nothing after it (R301; log 16). -/
inductive Fault where
  /-- The word fetched at PC matches no row of R120. Raised by `step`. Safe. -/
  | unlistedEncoding (why : Unlisted)
  /-- has_ext13 = 1 and a 5-bit or 8-bit field has a non-zero bit above bit 2 (R117). Raised by every instruction
  with such a field. Safe. -/
  | longFormFieldBits
  /-- A shift or rotate amount above 15 (R180). Raised by the eight shift and rotate instructions. Safe. -/
  | shiftAmount
  /-- A value added to W, or loaded into W, that is no multiple of 8 (R200 (c)). Raised by ADJW, LDW, STW, XCHW. Safe. -/
  | windowAlignment
  /-- A short form takes entry 3 of the immediate table and `IMM_AL_3` was not supplied (R14, D12; log 13). Raised by ADDI,
  ADCI, SUBI, SBCI, CMPI, ANDI, ORI, XORI. Safe. -/
  | immAl3Unset
deriving DecidableEq, Repr

/-- Why the model declines to go on. No meaning refuses: every row of the table is modelled. -/
inductive Refusal where
  /-- An instruction not modelled yet; raised by `exec`'s arm alone (no arm does). Safe. -/
  | notModelled (mnemonic : String)
  /-- An access to an address of `mem` outside `MEM_POPULATED` (R77, R304, D7). Raised by `step`, never at the default. Safe. -/
  | unpopulatedMemory
deriving DecidableEq, Repr

/-- What a meaning answers. -/
abbrev Answer := Host.Outcome State Fault Refusal

/-- The machine after reset (R59, R331): PC and W at the printed values, has_ext13 = 0, every flag, ext13 and every
memory word UNDEFINED, no bus transaction, no free value used; every parameter at its default. `State.boot` is the same with
the parameters as an argument. -/
def State.reset : State where
  pc := Config.resetPc
  w := Config.resetW
  flags := { z := .undefined, s := .undefined, c := .undefined, v := .undefined }
  ext13 := .undefined
  hasExt13 := false
  mem := []
  bus := []
  busAnswers := []
  platform := {}
  draws := 0

end Sys2Proof.Machine
end

