-- ==== Sys2Proof/Machine/Ops.lean ====
section
/-! DEFINITION. The named operations over memory, registers, the bus and PC that every meaning is written with.
spec/00_scope.md R16 to R22, spec/10_state.md R32, R38, R55. The machine takes no exception and returns from none
(R300), so no such operation exists. -/

namespace Sys2Proof.Machine

/-! ## `mem` (R16, R70 to R79) -/

/-- The word listed at `a`, or UNDEFINED where none is. -/
def Memory.find : Memory → Nat → Val Word
  | [], _ => .undefined
  | (k, v) :: rest, a => if k = a then .known v else Memory.find rest a

/-- Lists `v` at `a`, in the canonical order. -/
def Memory.insert : Memory → Nat → Word → Memory
  | [], a, v => [(a, v)]
  | (k, u) :: rest, a, v =>
    if a < k then (a, v) :: (k, u) :: rest
    else if k = a then (a, v) :: rest
    else (k, u) :: Memory.insert rest a v

/-- Lists nothing at `a`. -/
def Memory.erase : Memory → Nat → Memory
  | [], _ => []
  | (k, u) :: rest, a => if k = a then Memory.erase rest a else (k, u) :: Memory.erase rest a

/-- `MemRead(addr, 1)` (R16). A read has no side effect (R79). -/
def Memory.read (m : Memory) (addr : Word) : Val Word := Memory.find m addr.toNat

/-- `MemRead` at an address that may be UNDEFINED: the word is then UNDEFINED (R19, R210 (h)). -/
def Memory.readAt (m : Memory) (addr : Val Word) : Val Word := addr.bind m.read

/-- `MemWrite(addr, 1, v)` (R16); writing an UNDEFINED value sets the mark (R19). -/
def Memory.write (m : Memory) (addr : Word) (v : Val Word) : Memory :=
  match v with
  | .known x => Memory.insert m addr.toNat x
  | .undefined => Memory.erase m addr.toNat

/-! ## General registers (R18, R38) -/

/-- The address of general register `r`: `W + r`, wrapping (R38). -/
def State.regAddr (s : State) (r : BitVec 3) : Word := s.w + r.setWidth 16

/-- `x[r]`: the memory word at the register's address (R18). -/
def State.reg (s : State) (r : BitVec 3) : Val Word := s.mem.read (s.regAddr r)

/-- `x[r] <- v` (R18), at the window that W names now. -/
def State.setReg (s : State) (r : BitVec 3) (v : Val Word) : State :=
  { s with mem := s.mem.write (s.regAddr r) v }

/-- `mem[addr] <- v`. -/
def State.store (s : State) (addr : Word) (v : Val Word) : State := { s with mem := s.mem.write addr v }

/-! ## A value that steers the machine (R19, R304, spec/93 U2)

"Reading a register whose value is currently UNDEFINED may produce any bit pattern." Where the value decides what the
machine does next, the model takes a free value for it (log 6), a fresh one each time. -/

/-- The word the machine goes on with: the value, or a free word where it is UNDEFINED. -/
def State.pick (s : State) (x : Val Word) : Word := x.getD (Config.freeWord s.draws)

/-- The bit the machine goes on with: the value, or a free bit where it is UNDEFINED. -/
def State.pickBit (s : State) (x : Val Bool) : Bool := x.getD (Config.freeBit s.draws)

/-- The state after `pick` or `pickBit` of `x`: a free value that was used is not used again. -/
def State.picked {α : Type} (s : State) (x : Val α) : State :=
  match x with
  | .known _ => s
  | .undefined => { s with draws := s.draws + 1 }

/-! ## The end of an instruction (R24, R32, R55) -/

/-- "Except for after EXTI, ext13 ← UNDEFINED and has ext13 ← 0 after every instruction" (R55). -/
def State.clearExt (s : State) : State := { s with ext13 := .undefined, hasExt13 := false }

/-- The address of the next instruction word: PC + 1, wrapping (R32, R33). -/
def State.nextPc (s : State) : Word := s.pc + 1#16

/-- The end of an instruction that does not assign PC: the default advance (R32), then R55. -/
def State.advance (s : State) : State := { s.clearExt with pc := s.nextPc }

/-- The end of an instruction that assigns PC (R32, R22), then R55. An UNDEFINED target is any address (log 6). -/
def State.jumpTo (s : State) (target : Val Word) : State :=
  { (s.picked target).clearExt with pc := s.pick target }

/-! ## The external bus (R17, R82, R83) -/

/-- The word the bus has for a read at `a`: the next of the answers that the host supplied, or any word (R82; log 14). -/
def State.busWord (s : State) (a : Word) : Word := s.busAnswers.head?.getD (Config.extOracle s.bus a)

/-- What `ExtRead(addr, 1)` answers. At an UNDEFINED address the answer is UNDEFINED (spec/93 U2 (b); log 12). -/
def State.extAnswer (s : State) (addr : Val Word) : Val Word := addr.map s.busWord

/-- The state after `ExtRead(addr, 1)`: the transaction is recorded, and one supplied answer is used. -/
def State.extRead (s : State) (addr : Val Word) : State :=
  { s with bus := s.bus ++ [.read addr (s.extAnswer addr)], busAnswers := s.busAnswers.tail }

/-- `ExtWrite(addr, 1, data)`: recorded, and no CPU state changes (R82). -/
def State.extWrite (s : State) (addr data : Val Word) : State :=
  { s with bus := s.bus ++ [.write addr data] }

/-! ## Memory that exists (R77) -/

/-- Whether an access at an address is one to a word that exists (R77). An access at an UNDEFINED address is none outside the set:
the word loaded is UNDEFINED, and nothing is refused (R210 (h), R304, spec/93 U2 (b)). -/
def State.populated (s : State) : Val Word → Bool
  | .known a => s.platform.memPopulated.any (·.holds a)
  | .undefined => true

/-- Goes on if every address given exists; else refused, whatever the access would have done (R77, R304, D7). -/
def State.inMemory (s : State) (addrs : List (Val Word)) (k : Answer) : Answer :=
  if addrs.all s.populated then k else .refused .unpopulatedMemory

/-- Writes at the addresses given, if the instruction goes on: an instruction that is UNPREDICTABLE is so before it writes
anything (R21). -/
def State.writesInMemory (s : State) (addrs : List (Val Word)) (a : Answer) : Answer :=
  match a with
  | .next t => s.inMemory addrs (.next t)
  | .fault f => .fault f
  | .refused r => .refused r

/-! ## Raising UNPREDICTABLE (R20, R301) -/

/-- Goes on with the value, or stops with the fault: `raise Unpredictable(reason)`, before any state is written
(R21, R302). -/
def orFault {α : Type} (x : Except Fault α) (k : α → Answer) : Answer :=
  match x with
  | .ok a => k a
  | .error f => .fault f

/-! ## Fetching (R35) -/

/-- The word at PC (R35). -/
def State.fetched (s : State) : Val Word := s.mem.read s.pc

/-- The word the machine decodes: the fetched word, or a free word where it is UNDEFINED (log 8). -/
def State.fetchWord (s : State) : Word := s.pick s.fetched

/-- The state the fetched instruction starts in. -/
def State.afterFetch (s : State) : State := s.picked s.fetched

/-- The bits of a table row placed at PC. -/
def State.placeAtPc (s : State) (nbits w : Nat) : State :=
  s.store s.pc (.known (BitVec.ofNat 16 (w % 2 ^ nbits)))

end Sys2Proof.Machine
end

