-- ==== Sys2Proof/Machine/Operands.lean ====
section
/-! DEFINITION. Every operand form: immediates and offsets, short and long (spec/30_encoding.md R112 to R118,
spec/00_scope.md R13 to R15). The form is chosen by has_ext13 when the instruction runs (R54, R117). -/

namespace Sys2Proof.Machine

/-- The table of arithmetic and logic immediates (R14); entry 3 is `IMM_AL_3`, and UNPREDICTABLE where that was not supplied
(R303, D12; log 13). -/
def decodeImmAl (immAl3 : Option Word) (imm : BitVec 3) : Except Fault Word :=
  match imm.toNat with
  | 0 => .ok 0x0000#16
  | 1 => .ok 0x0001#16
  | 2 => .ok 0x8000#16
  | 3 => match immAl3 with
    | some v => .ok v
    | none => .error .immAl3Unset
  | 4 => .ok 0x00FF#16
  | 5 => .ok 0xFF00#16
  | 6 => .ok 0x7FFF#16
  | _ => .ok 0xFFFF#16

/-- The table of shift and rotate amounts (R15). -/
def decodeImmSr (imm : BitVec 3) : Word :=
  match imm.toNat with
  | 0 => 8#16
  | _ => imm.setWidth 16

/-- The long form's value: ext13 above the low three bits (R116). Where has_ext13 = 1 and ext13 is UNDEFINED, which a run reaches
only from `RESET_HAS_EXT13` = 1, the value is UNDEFINED (log 29). -/
def State.longImm (s : State) (low : BitVec 3) : Val Word := s.ext13.map (fun high => high ++ low)

/-- The operand of the arithmetic and logic immediates (R112). -/
def State.immAl (s : State) (imm : BitVec 3) : Except Fault (Val Word) :=
  if s.hasExt13 then .ok (s.longImm imm) else (decodeImmAl s.platform.immAl3 imm).map .known

/-- The operand of the shift and rotate immediates (R113). -/
def State.immSr (s : State) (imm : BitVec 3) : Val Word :=
  if s.hasExt13 then s.longImm imm else .known (decodeImmSr imm)

/-- A 5-bit field (R114): sign-extended, or in the long form its low three bits under ext13, its upper bits zero. -/
def State.imm5 (s : State) (f : BitVec 5) : Except Fault (Val Word) :=
  if s.hasExt13 then
    if f.extractLsb' 3 2 = 0#2 then .ok (s.longImm (f.extractLsb' 0 3)) else .error .longFormFieldBits
  else .ok (.known (f.signExtend 16))

/-- An 8-bit field (R115): sign-extended, or in the long form its low three bits under ext13, its upper bits zero. -/
def State.imm8 (s : State) (f : BitVec 8) : Except Fault (Val Word) :=
  if s.hasExt13 then
    if f.extractLsb' 3 5 = 0#5 then .ok (s.longImm (f.extractLsb' 0 3)) else .error .longFormFieldBits
  else .ok (.known (f.signExtend 16))

/-- A register plus an offset, wrapping (R71): the addresses of LD, ST, LDX, STX and the target of JR. -/
def State.regPlus (s : State) (r : BitVec 3) (off : Val Word) : Val Word := Val.map2 (· + ·) (s.reg r) off

/-- `PC + 1 + off`, wrapping (R131): a PC-relative address, a branch target, the table of JST. -/
def State.pcPlus (s : State) (off : Val Word) : Val Word := off.map (s.nextPc + ·)

/-- `PC + 1 + off + x[r]`, wrapping: the addresses of LDR and STR (R210 (d)). -/
def State.pcPlusReg (s : State) (r : BitVec 3) (off : Val Word) : Val Word :=
  Val.map2 (· + ·) (s.pcPlus off) (s.reg r)

/-- JST's target (R235): the word at table + entry, added to the table's address `PC + 1 + off`. -/
def State.switchTarget (s : State) (r : BitVec 3) (off : Val Word) : Val Word :=
  Val.map2 (· + ·) (s.pcPlus off) (s.mem.readAt (s.pcPlusReg r off))

/-- JVT's target (R236): the word at table + off, added to the table's address `x[r]`. -/
def State.virtualTarget (s : State) (r : BitVec 3) (off : Val Word) : Val Word :=
  Val.map2 (· + ·) (s.reg r) (s.mem.readAt (s.regPlus r off))

end Sys2Proof.Machine
end

