-- ==== Sys2Proof/Machine/Flags.lean ====
section
/-! DEFINITION. Every flag computation (spec/10_state.md R46 to R49), the results of the ALU, and the conditions of the
branches (spec/30_encoding.md R109). -/

namespace Sys2Proof.Machine

/-- A result word and the four flags that go with it. -/
structure AluResult where
  /-- The word for Rd. -/
  value : Val Word
  /-- Z, S, C, V after the instruction. -/
  flags : Flags
deriving DecidableEq, Repr

/-- Everything UNDEFINED: the result of an ALU operation with an UNDEFINED input (R19, R140 (h)). -/
def AluResult.undefined : AluResult where
  value := .undefined
  flags := { z := .undefined, s := .undefined, c := .undefined, v := .undefined }

/-- The exact sum of two words and a carry: at most 0x1FFFF, so 17 bits hold it (R10; log 28). -/
def sum17 (a b : Word) (cin : Bool) : BitVec 17 := a.setWidth 17 + b.setWidth 17 + (BitVec.ofBool cin).setWidth 17

/-- A result from its 17-bit sum: Z from bits 15:0, S from bit 15, C from bit 16 (R46, R47, R48), and the given V. -/
def arithResult (res : BitVec 17) (v : Bool) : AluResult where
  value := .known (res.setWidth 16)
  flags := {
    z := .known (res.setWidth 16 == 0#16)
    s := .known (res.getLsbD 15)
    c := .known (res.getLsbD 16)
    v := .known v }

/-- `opA + opB + cin` (R141 to R144), V by the addition formula (R49). -/
def addResult (a b : Word) (cin : Bool) : AluResult :=
  let res := sum17 a b cin
  arithResult res ((a.getLsbD 15 == b.getLsbD 15) && (a.getLsbD 15 != res.getLsbD 15))

/-- `opA + (not opB) + cin` (R145 to R150), V by the subtraction formula, opB as it was before complementing
(R49, R140 (d)). -/
def subResult (a b : Word) (cin : Bool) : AluResult :=
  let res := sum17 a (~~~b) cin
  arithResult res ((a.getLsbD 15 == !b.getLsbD 15) && (a.getLsbD 15 != res.getLsbD 15))

/-- An arithmetic operation on operands and a carry that may be UNDEFINED: then everything is (R140 (h)). -/
def arithOf (f : Word → Word → Bool → AluResult) (a b : Val Word) (cin : Val Bool) : AluResult :=
  match a, b, cin with
  | .known a, .known b, .known c => f a b c
  | _, _, _ => .undefined

/-- The result of a logic, shift or rotate operation: Z and S from the word, C and V UNDEFINED (R160 (d), R170 (d)). -/
def logicResult (value : Val Word) : AluResult where
  value := value
  flags := {
    z := value.map (· == 0#16)
    s := value.map (·.getLsbD 15)
    c := .undefined
    v := .undefined }

/-- The end of an ALU instruction that writes Rd: the register, the flags, then the default advance. -/
def State.writeAlu (s : State) (rd : BitVec 3) (r : AluResult) : State :=
  { s.setReg rd r.value with flags := r.flags }.advance

/-- The end of CMP and CMPI: the flags, then the default advance; the word is discarded (R149, R150). -/
def State.writeFlags (s : State) (r : AluResult) : State := { s with flags := r.flags }.advance

/-! ## Shifts and rotates of a word by 0 to 15 (R171 to R178) -/

/-- `{opA[15-n:0], rep(n, 0)}` (R171). -/
def shiftLeft (a : Word) (n : Nat) : Word := a <<< n
/-- `{rep(n, 0), opA[15:n]}` (R173, R174; log 19). -/
def shiftRightLogical (a : Word) (n : Nat) : Word := a >>> n
/-- `{rep(n, opA[15]), opA[15:n]}` (R175). -/
def shiftRightArith (a : Word) (n : Nat) : Word := a.sshiftRight n
/-- `{opA[15-n:0], opA[15:16-n]}` (R177). -/
def rotateLeft (a : Word) (n : Nat) : Word := (a <<< n) ||| (a >>> (16 - n))

/-- A shift or rotate by an amount that must be at most 15 (R180). The test steers the machine, so an UNDEFINED amount is
tested as a free value (log 10); the word computed from an UNDEFINED amount is UNDEFINED (R19). -/
def State.shift (s : State) (f : Word → Nat → Word) (rd : BitVec 3) (a amount : Val Word) : Answer :=
  if (s.pick amount).toNat > 15 then .fault .shiftAmount
  else .next ((s.picked amount).writeAlu rd (logicResult (Val.map2 (fun x n => f x n.toNat) a amount)))

/-! ## Branch conditions (R109) -/

/-- `not x` of a bit that may be UNDEFINED. -/
def notBit (x : Val Bool) : Val Bool := x.map (! ·)
/-- `x or y`, UNDEFINED when either is (R19, no algebraic exception; log 9). -/
def orBit (x y : Val Bool) : Val Bool := Val.map2 (· || ·) x y
/-- `x xor y`, UNDEFINED when either is. -/
def xorBit (x y : Val Bool) : Val Bool := Val.map2 (· ^^ ·) x y

/-- cond 100: `(not C) or Z`, unsigned less or equal. -/
def Flags.leu (f : Flags) : Val Bool := orBit (notBit f.c) f.z
/-- cond 101: `S xor V`, signed less. -/
def Flags.lts (f : Flags) : Val Bool := xorBit f.s f.v
/-- cond 110: `(S xor V) or Z`, signed less or equal. -/
def Flags.les (f : Flags) : Val Bool := orBit (xorBit f.s f.v) f.z

/-- The operation every conditional branch has (R240 (c)): to `PC + 1 + off` if the condition holds, else to `PC + 1`.
A condition that reads an UNDEFINED flag goes either way, as a free bit says (R240 (h); log 9). -/
def State.branch (s : State) (cond : Val Bool) (off : BitVec 8) : Answer :=
  orFault (s.imm8 off) fun o =>
    .next ((s.picked cond).jumpTo (if s.pickBit cond then s.pcPlus o else .known s.nextPc))

end Sys2Proof.Machine
end

