-- ==== Sys2Proof/Machine/Access.lean ====
section
/-! DEFINITION. The words of `mem` that each instruction reads and writes (spec/20_memory.md R92), which must exist (R77). -/

namespace Sys2Proof.Machine

/-- The word of a general register, as an address. -/
def State.regWord (s : State) (r : BitVec 3) : Val Word := .known (s.regAddr r)

/-- The word of register `r` in the window at `w`. -/
def newRegWord (w : Word) (r : BitVec 3) : Val Word := .known (w + r.setWidth 16)

/-- The accesses of an instruction after its 5-bit or 8-bit field; none where the field is UNPREDICTABLE, since every operation
takes the field before anything else (R211 to R236). -/
def fieldAccess (x : Except Fault (Val Word)) (f : Val Word → List (Val Word)) : List (Val Word) :=
  match x with
  | .ok o => f o
  | .error _ => []

/-- What an instruction reads, in the order of R92, after the fetch. It reads all of it before any other reason to be UNPREDICTABLE
than its field can arise (R21). -/
def State.reads (s : State) : Instr → List (Val Word)
  | .add _ ra rb => [s.regWord ra, s.regWord rb]
  | .addi _ ra _ => [s.regWord ra]
  | .adc _ ra rb => [s.regWord ra, s.regWord rb]
  | .adci _ ra _ => [s.regWord ra]
  | .sub _ ra rb => [s.regWord ra, s.regWord rb]
  | .subi _ ra _ => [s.regWord ra]
  | .sbc _ ra rb => [s.regWord ra, s.regWord rb]
  | .sbci _ ra _ => [s.regWord ra]
  | .cmp ra rb => [s.regWord ra, s.regWord rb]
  | .cmpi ra _ => [s.regWord ra]
  | .and _ ra rb => [s.regWord ra, s.regWord rb]
  | .andi _ ra _ => [s.regWord ra]
  | .or _ ra rb => [s.regWord ra, s.regWord rb]
  | .ori _ ra _ => [s.regWord ra]
  | .xor _ ra rb => [s.regWord ra, s.regWord rb]
  | .xori _ ra _ => [s.regWord ra]
  | .sll _ ra rb => [s.regWord ra, s.regWord rb]
  | .slli _ ra _ => [s.regWord ra]
  | .srl _ ra rb => [s.regWord ra, s.regWord rb]
  | .srli _ ra _ => [s.regWord ra]
  | .sra _ ra rb => [s.regWord ra, s.regWord rb]
  | .srai _ ra _ => [s.regWord ra]
  | .rol _ ra rb => [s.regWord ra, s.regWord rb]
  | .roli _ ra _ => [s.regWord ra]
  | .movi _ _ => []
  | .movr _ _ => []
  | .exti _ => []
  | .nop => []
  | .adjw _ => []
  | .ldw _ _ => []
  | .stw rb => [s.regWord rb]
  | .xchw _ rb => [s.regWord rb]
  | .ld _ ra off => fieldAccess (s.imm5 off) fun o => [s.regWord ra, s.regPlus ra o]
  | .ldr _ ra off => fieldAccess (s.imm5 off) fun o => [s.regWord ra, s.pcPlusReg ra o]
  | .st rs ra off => fieldAccess (s.imm5 off) fun _ => [s.regWord ra, s.regWord rs]
  | .str rs ra off => fieldAccess (s.imm5 off) fun _ => [s.regWord ra, s.regWord rs]
  | .ldx _ ra off => fieldAccess (s.imm5 off) fun _ => [s.regWord ra]
  | .ldxa _ _ => []
  | .stx rs ra off => fieldAccess (s.imm5 off) fun _ => [s.regWord ra, s.regWord rs]
  | .stxa rs off => fieldAccess (s.imm8 off) fun _ => [s.regWord rs]
  | .j _ => []
  | .jal _ _ => []
  | .jr rs off => fieldAccess (s.imm5 off) fun _ => [s.regWord rs]
  | .jral _ rb => [s.regWord rb]
  | .jst rs off => fieldAccess (s.imm5 off) fun o => [s.regWord rs, s.pcPlusReg rs o]
  | .jvt rs off => fieldAccess (s.imm5 off) fun o => [s.regWord rs, s.regPlus rs o]
  | .beq _ => []
  | .bgts _ => []
  | .bgtu _ => []
  | .bges _ => []
  | .bgeu _ => []
  | .bles _ => []
  | .bleu _ => []
  | .blts _ => []
  | .bltu _ => []
  | .bne _ => []
  | .bz _ => []
  | .bnz _ => []
  | .bs _ => []
  | .bns _ => []
  | .bc _ => []
  | .bnc _ => []
  | .bv _ => []
  | .bnv _ => []
  | .bz1 _ => []
  | .bz0 _ => []
  | .bs1 _ => []
  | .bs0 _ => []
  | .bc1 _ => []
  | .bc0 _ => []
  | .bv1 _ => []
  | .bv0 _ => []

/-- The one word an instruction writes, if it writes one and goes on (R92). -/
def State.writes (s : State) : Instr → List (Val Word)
  | .add rd _ _ => [s.regWord rd]
  | .addi rd _ _ => [s.regWord rd]
  | .adc rd _ _ => [s.regWord rd]
  | .adci rd _ _ => [s.regWord rd]
  | .sub rd _ _ => [s.regWord rd]
  | .subi rd _ _ => [s.regWord rd]
  | .sbc rd _ _ => [s.regWord rd]
  | .sbci rd _ _ => [s.regWord rd]
  | .cmp _ _ => []
  | .cmpi _ _ => []
  | .and rd _ _ => [s.regWord rd]
  | .andi rd _ _ => [s.regWord rd]
  | .or rd _ _ => [s.regWord rd]
  | .ori rd _ _ => [s.regWord rd]
  | .xor rd _ _ => [s.regWord rd]
  | .xori rd _ _ => [s.regWord rd]
  | .sll rd _ _ => [s.regWord rd]
  | .slli rd _ _ => [s.regWord rd]
  | .srl rd _ _ => [s.regWord rd]
  | .srli rd _ _ => [s.regWord rd]
  | .sra rd _ _ => [s.regWord rd]
  | .srai rd _ _ => [s.regWord rd]
  | .rol rd _ _ => [s.regWord rd]
  | .roli rd _ _ => [s.regWord rd]
  | .movi rd _ => [s.regWord rd]
  | .movr rd _ => [s.regWord rd]
  | .exti _ => []
  | .nop => []
  | .adjw _ => []
  | .ldw rd imm => fieldAccess (s.imm5 imm) fun v => [newRegWord (s.w + s.pick v) rd]
  | .stw _ => []
  | .xchw rd rb => [newRegWord (s.pick (s.reg rb)) rd]
  | .ld rd _ _ => [s.regWord rd]
  | .ldr rd _ _ => [s.regWord rd]
  | .st _ ra off => fieldAccess (s.imm5 off) fun o => [.known (s.pick (s.regPlus ra o))]
  | .str _ ra off => fieldAccess (s.imm5 off) fun o => [.known (s.pick (s.pcPlusReg ra o))]
  | .ldx rd _ _ => [s.regWord rd]
  | .ldxa rd _ => [s.regWord rd]
  | .stx _ _ _ => []
  | .stxa _ _ => []
  | .j _ => []
  | .jal rd _ => [s.regWord rd]
  | .jr _ _ => []
  | .jral rd _ => [s.regWord rd]
  | .jst _ _ => []
  | .jvt _ _ => []
  | .beq _ => []
  | .bgts _ => []
  | .bgtu _ => []
  | .bges _ => []
  | .bgeu _ => []
  | .bles _ => []
  | .bleu _ => []
  | .blts _ => []
  | .bltu _ => []
  | .bne _ => []
  | .bz _ => []
  | .bnz _ => []
  | .bs _ => []
  | .bns _ => []
  | .bc _ => []
  | .bnc _ => []
  | .bv _ => []
  | .bnv _ => []
  | .bz1 _ => []
  | .bz0 _ => []
  | .bs1 _ => []
  | .bs0 _ => []
  | .bc1 _ => []
  | .bc0 _ => []
  | .bv1 _ => []
  | .bv0 _ => []

end Sys2Proof.Machine
end

