-- ==== Sys2Proof/Machine/Arithmetic.lean ====
section
/-! DEFINITION. The arithmetic instructions (spec/40_alu_arithmetic.md). None is ever UNPREDICTABLE (R140 (f)), but for
an immediate form that takes entry 3 of the table where `IMM_AL_3` was not supplied (R303; log 13). -/

namespace Sys2Proof.Machine

/-- ADD (R141). -/
def execAdd (rd ra rb : BitVec 3) (s : State) : Answer :=
  .next (s.writeAlu rd (arithOf addResult (s.reg ra) (s.reg rb) (.known false)))

/-- ADDI (R142). -/
def execAddi (rd ra imm : BitVec 3) (s : State) : Answer :=
  orFault (s.immAl imm) fun v => .next (s.writeAlu rd (arithOf addResult (s.reg ra) v (.known false)))

/-- ADC (R143). -/
def execAdc (rd ra rb : BitVec 3) (s : State) : Answer :=
  .next (s.writeAlu rd (arithOf addResult (s.reg ra) (s.reg rb) s.flags.c))

/-- ADCI (R144). -/
def execAdci (rd ra imm : BitVec 3) (s : State) : Answer :=
  orFault (s.immAl imm) fun v => .next (s.writeAlu rd (arithOf addResult (s.reg ra) v s.flags.c))

/-- SUB (R145). -/
def execSub (rd ra rb : BitVec 3) (s : State) : Answer :=
  .next (s.writeAlu rd (arithOf subResult (s.reg ra) (s.reg rb) (.known true)))

/-- SUBI (R146). -/
def execSubi (rd ra imm : BitVec 3) (s : State) : Answer :=
  orFault (s.immAl imm) fun v => .next (s.writeAlu rd (arithOf subResult (s.reg ra) v (.known true)))

/-- SBC (R147). -/
def execSbc (rd ra rb : BitVec 3) (s : State) : Answer :=
  .next (s.writeAlu rd (arithOf subResult (s.reg ra) (s.reg rb) s.flags.c))

/-- SBCI (R148). -/
def execSbci (rd ra imm : BitVec 3) (s : State) : Answer :=
  orFault (s.immAl imm) fun v => .next (s.writeAlu rd (arithOf subResult (s.reg ra) v s.flags.c))

/-- CMP (R149): SUB without the word. -/
def execCmp (ra rb : BitVec 3) (s : State) : Answer :=
  .next (s.writeFlags (arithOf subResult (s.reg ra) (s.reg rb) (.known true)))

/-- CMPI (R150): SUBI without the word. -/
def execCmpi (ra imm : BitVec 3) (s : State) : Answer :=
  orFault (s.immAl imm) fun v => .next (s.writeFlags (arithOf subResult (s.reg ra) v (.known true)))

end Sys2Proof.Machine
end

