-- ==== Sys2Proof/Machine/Branch.lean ====
section
/-! DEFINITION. The conditional branches (spec/48_control_conditional.md R240): one shared operation, the condition apart. An alias
mnemonic has a definition of its own with its canonical branch's condition (R124, R133). -/

namespace Sys2Proof.Machine

/-- BEQ (R241, the words of BZ1). -/
def execBeq (off : BitVec 8) (s : State) : Answer := s.branch s.flags.z off

/-- BGTS (R242). -/
def execBgts (off : BitVec 8) (s : State) : Answer := s.branch (notBit s.flags.les) off

/-- BGTU (R243). -/
def execBgtu (off : BitVec 8) (s : State) : Answer := s.branch (notBit s.flags.leu) off

/-- BGES (R244). -/
def execBges (off : BitVec 8) (s : State) : Answer := s.branch (notBit s.flags.lts) off

/-- BGEU (R245, the words of BC1). -/
def execBgeu (off : BitVec 8) (s : State) : Answer := s.branch s.flags.c off

/-- BLES (R246). -/
def execBles (off : BitVec 8) (s : State) : Answer := s.branch s.flags.les off

/-- BLEU (R247). -/
def execBleu (off : BitVec 8) (s : State) : Answer := s.branch s.flags.leu off

/-- BLTS (R248). -/
def execBlts (off : BitVec 8) (s : State) : Answer := s.branch s.flags.lts off

/-- BLTU (R249, the words of BC0). -/
def execBltu (off : BitVec 8) (s : State) : Answer := s.branch (notBit s.flags.c) off

/-- BNE (R250, the words of BZ0). -/
def execBne (off : BitVec 8) (s : State) : Answer := s.branch (notBit s.flags.z) off

/-- BZ (R251, the words of BZ1). -/
def execBz (off : BitVec 8) (s : State) : Answer := s.branch s.flags.z off

/-- BNZ (R252, the words of BZ0). -/
def execBnz (off : BitVec 8) (s : State) : Answer := s.branch (notBit s.flags.z) off

/-- BS (R253, the words of BS1). -/
def execBs (off : BitVec 8) (s : State) : Answer := s.branch s.flags.s off

/-- BNS (R254, the words of BS0). -/
def execBns (off : BitVec 8) (s : State) : Answer := s.branch (notBit s.flags.s) off

/-- BC (R255, the words of BC1). -/
def execBc (off : BitVec 8) (s : State) : Answer := s.branch s.flags.c off

/-- BNC (R256, the words of BC0). -/
def execBnc (off : BitVec 8) (s : State) : Answer := s.branch (notBit s.flags.c) off

/-- BV (R257, the words of BV1). -/
def execBv (off : BitVec 8) (s : State) : Answer := s.branch s.flags.v off

/-- BNV (R258, the words of BV0). -/
def execBnv (off : BitVec 8) (s : State) : Answer := s.branch (notBit s.flags.v) off

/-- BZ1 (R259). -/
def execBz1 (off : BitVec 8) (s : State) : Answer := s.branch s.flags.z off

/-- BZ0 (R260). -/
def execBz0 (off : BitVec 8) (s : State) : Answer := s.branch (notBit s.flags.z) off

/-- BS1 (R261). -/
def execBs1 (off : BitVec 8) (s : State) : Answer := s.branch s.flags.s off

/-- BS0 (R262). -/
def execBs0 (off : BitVec 8) (s : State) : Answer := s.branch (notBit s.flags.s) off

/-- BC1 (R263). -/
def execBc1 (off : BitVec 8) (s : State) : Answer := s.branch s.flags.c off

/-- BC0 (R264). -/
def execBc0 (off : BitVec 8) (s : State) : Answer := s.branch (notBit s.flags.c) off

/-- BV1 (R265). -/
def execBv1 (off : BitVec 8) (s : State) : Answer := s.branch s.flags.v off

/-- BV0 (R266). -/
def execBv0 (off : BitVec 8) (s : State) : Answer := s.branch (notBit s.flags.v) off

end Sys2Proof.Machine
end

