-- ==== Sys2Proof/Machine/ExternalBus.lean ====
section
/-! DEFINITION. The external-bus instructions (spec/46_external_bus.md R220): one transaction each. None changes a flag. -/

namespace Sys2Proof.Machine

/-- A bus load: one read transaction, its answer to Rd (R221, R222). -/
def State.busLoad (s : State) (rd : BitVec 3) (addr : Val Word) : State :=
  ((s.extRead addr).setReg rd (s.extAnswer addr)).advance

/-- A bus store: one write transaction of Rs (R223, R224). -/
def State.busStore (s : State) (rs : BitVec 3) (addr : Val Word) : State :=
  (s.extWrite addr (s.reg rs)).advance

/-- LDX (R221). -/
def execLdx (rd ra : BitVec 3) (off : BitVec 5) (s : State) : Answer :=
  orFault (s.imm5 off) fun o => .next (s.busLoad rd (s.regPlus ra o))

/-- LDXA (R222). -/
def execLdxa (rd : BitVec 3) (off : BitVec 8) (s : State) : Answer :=
  orFault (s.imm8 off) fun o => .next (s.busLoad rd o)

/-- STX (R223). -/
def execStx (rs ra : BitVec 3) (off : BitVec 5) (s : State) : Answer :=
  orFault (s.imm5 off) fun o => .next (s.busStore rs (s.regPlus ra o))

/-- STXA (R224). -/
def execStxa (rs : BitVec 3) (off : BitVec 8) (s : State) : Answer :=
  orFault (s.imm8 off) fun o => .next (s.busStore rs o)

end Sys2Proof.Machine
end

