-- ==== Sys2Proof/Machine/Jump.lean ====
section
/-! DEFINITION. The unconditional jumps (spec/47_control_unconditional.md R230). None changes a flag; each assigns PC. -/

namespace Sys2Proof.Machine

/-- J (R231). -/
def execJ (off : BitVec 8) (s : State) : Answer :=
  orFault (s.imm8 off) fun o => .next (s.jumpTo (s.pcPlus o))

/-- JAL (R232): the link is the word after the JAL word. -/
def execJal (rd : BitVec 3) (off : BitVec 8) (s : State) : Answer :=
  orFault (s.imm8 off) fun o => .next ((s.setReg rd (.known s.nextPc)).jumpTo (s.pcPlus o))

/-- JR (R233): absolute, and the register is Rs (90_conflicts.md C1, C2; log 25). -/
def execJr (rs : BitVec 3) (off : BitVec 5) (s : State) : Answer :=
  orFault (s.imm5 off) fun o => .next (s.jumpTo (s.regPlus rs o))

/-- JRAL (R234): the target is read before the link is written. -/
def execJral (rd rb : BitVec 3) (s : State) : Answer :=
  .next ((s.setReg rd (.known s.nextPc)).jumpTo (s.reg rb))

/-- JST (R235). -/
def execJst (rs : BitVec 3) (off : BitVec 5) (s : State) : Answer :=
  orFault (s.imm5 off) fun o => .next (s.jumpTo (s.switchTarget rs o))

/-- JVT (R236). -/
def execJvt (rs : BitVec 3) (off : BitVec 5) (s : State) : Answer :=
  orFault (s.imm5 off) fun o => .next (s.jumpTo (s.virtualTarget rs o))

end Sys2Proof.Machine
end

