-- ==== Sys2Proof/Machine/LoadStore.lean ====
section
/-! DEFINITION. Loads and stores of main memory (spec/45_memory_loadstore.md R210). None changes a flag. -/

namespace Sys2Proof.Machine

/-- A load: the word at the address goes to Rd (R211, R212). -/
def State.load (s : State) (rd : BitVec 3) (addr : Val Word) : State := (s.setReg rd (s.mem.readAt addr)).advance

/-- A store of Rs at the address (R213, R214). An UNDEFINED address is any address (R210 (h); log 11). -/
def State.storeReg (s : State) (rs : BitVec 3) (addr : Val Word) : State :=
  ((s.picked addr).store (s.pick addr) (s.reg rs)).advance

/-- LD (R211). -/
def execLd (rd ra : BitVec 3) (off : BitVec 5) (s : State) : Answer :=
  orFault (s.imm5 off) fun o => .next (s.load rd (s.regPlus ra o))

/-- LDR (R212). -/
def execLdr (rd ra : BitVec 3) (off : BitVec 5) (s : State) : Answer :=
  orFault (s.imm5 off) fun o => .next (s.load rd (s.pcPlusReg ra o))

/-- ST (R213). -/
def execSt (rs ra : BitVec 3) (off : BitVec 5) (s : State) : Answer :=
  orFault (s.imm5 off) fun o => .next (s.storeReg rs (s.regPlus ra o))

/-- STR (R214). -/
def execStr (rs ra : BitVec 3) (off : BitVec 5) (s : State) : Answer :=
  orFault (s.imm5 off) fun o => .next (s.storeReg rs (s.pcPlusReg ra o))

end Sys2Proof.Machine
end

