-- ==== Sys2Proof/Machine/Logic.lean ====
section
/-! DEFINITION. The logic instructions (spec/41_alu_logic.md R160). -/

namespace Sys2Proof.Machine

/-- AND (R161). -/
def execAnd (rd ra rb : BitVec 3) (s : State) : Answer :=
  .next (s.writeAlu rd (logicResult (Val.map2 (· &&& ·) (s.reg ra) (s.reg rb))))

/-- ANDI (R162). -/
def execAndi (rd ra imm : BitVec 3) (s : State) : Answer :=
  orFault (s.immAl imm) fun v => .next (s.writeAlu rd (logicResult (Val.map2 (· &&& ·) (s.reg ra) v)))

/-- OR (R163). -/
def execOr (rd ra rb : BitVec 3) (s : State) : Answer :=
  .next (s.writeAlu rd (logicResult (Val.map2 (· ||| ·) (s.reg ra) (s.reg rb))))

/-- ORI (R164). -/
def execOri (rd ra imm : BitVec 3) (s : State) : Answer :=
  orFault (s.immAl imm) fun v => .next (s.writeAlu rd (logicResult (Val.map2 (· ||| ·) (s.reg ra) v)))

/-- XOR (R165). -/
def execXor (rd ra rb : BitVec 3) (s : State) : Answer :=
  .next (s.writeAlu rd (logicResult (Val.map2 (· ^^^ ·) (s.reg ra) (s.reg rb))))

/-- XORI (R166). -/
def execXori (rd ra imm : BitVec 3) (s : State) : Answer :=
  orFault (s.immAl imm) fun v => .next (s.writeAlu rd (logicResult (Val.map2 (· ^^^ ·) (s.reg ra) v)))

end Sys2Proof.Machine
end

