-- ==== Sys2Proof/Machine/Shift.lean ====
section
/-! DEFINITION. The shift and rotate instructions (spec/42_alu_shift_rotate.md R170, R180). -/

namespace Sys2Proof.Machine

/-- SLL (R171). -/
def execSll (rd ra rb : BitVec 3) (s : State) : Answer :=
  s.shift shiftLeft rd (s.reg ra) (s.reg rb)

/-- SLLI (R172). -/
def execSlli (rd ra imm : BitVec 3) (s : State) : Answer :=
  s.shift shiftLeft rd (s.reg ra) (s.immSr imm)

/-- SRL (R173). -/
def execSrl (rd ra rb : BitVec 3) (s : State) : Answer :=
  s.shift shiftRightLogical rd (s.reg ra) (s.reg rb)

/-- SRLI (R174): zero fill (90_conflicts.md C4; log 19). -/
def execSrli (rd ra imm : BitVec 3) (s : State) : Answer :=
  s.shift shiftRightLogical rd (s.reg ra) (s.immSr imm)

/-- SRA (R175). -/
def execSra (rd ra rb : BitVec 3) (s : State) : Answer :=
  s.shift shiftRightArith rd (s.reg ra) (s.reg rb)

/-- SRAI (R176). -/
def execSrai (rd ra imm : BitVec 3) (s : State) : Answer :=
  s.shift shiftRightArith rd (s.reg ra) (s.immSr imm)

/-- ROL (R177). -/
def execRol (rd ra rb : BitVec 3) (s : State) : Answer :=
  s.shift rotateLeft rd (s.reg ra) (s.reg rb)

/-- ROLI (R178). -/
def execRoli (rd ra imm : BitVec 3) (s : State) : Answer :=
  s.shift rotateLeft rd (s.reg ra) (s.immSr imm)

end Sys2Proof.Machine
end

