-- ==== Sys2Proof/Machine/Transfer.lean ====
section
/-! DEFINITION. Register transfer: MOVI, MOVR, EXTI, NOP (spec/43_data_transfer_registers.md R190). None changes a flag. -/

namespace Sys2Proof.Machine

/-- MOVI (R192). -/
def execMovi (rd : BitVec 3) (imm : BitVec 8) (s : State) : Answer :=
  orFault (s.imm8 imm) fun v => .next (s.setReg rd v).advance

/-- MOVR (R193). -/
def execMovr (rd : BitVec 3) (off : BitVec 8) (s : State) : Answer :=
  orFault (s.imm8 off) fun o => .next (s.setReg rd (s.pcPlus o)).advance

/-- EXTI (R195): the one instruction after which has_ext13 is not cleared (R55). -/
def execExti (imm : BitVec 13) (s : State) : Answer :=
  .next { s with ext13 := .known imm, hasExt13 := true, pc := s.nextPc }

/-- NOP (R196). -/
def execNop (s : State) : Answer := .next s.advance

end Sys2Proof.Machine
end

