-- ==== Sys2Proof/Machine/Window.lean ====
section
/-! DEFINITION. The window instructions (spec/44_window.md R200): the only ones that change W or copy it to a register. -/

namespace Sys2Proof.Machine

/-- W takes the value `target` if `given`, the value added or loaded, is a multiple of 8; else UNPREDICTABLE (R200 (c)). -/
def State.moveWindow (s : State) (given target : Word) (k : State → State) : Answer :=
  if given.extractLsb' 0 3 = 0#3 then .next (k { s with w := target }).advance else .fault .windowAlignment

/-- ADJW (R201). -/
def execAdjw (imm : BitVec 5) (s : State) : Answer :=
  orFault (s.imm5 imm) fun v => (s.picked v).moveWindow (s.pick v) (s.w + s.pick v) id

/-- LDW (R202): the old W goes to Rd of the new window. -/
def execLdw (rd : BitVec 3) (imm : BitVec 5) (s : State) : Answer :=
  orFault (s.imm5 imm) fun v =>
    (s.picked v).moveWindow (s.pick v) (s.w + s.pick v) fun t => t.setReg rd (.known s.w)

/-- STW (R203). -/
def execStw (rb : BitVec 3) (s : State) : Answer :=
  (s.picked (s.reg rb)).moveWindow (s.pick (s.reg rb)) (s.pick (s.reg rb)) id

/-- XCHW (R204): Rb is read in the old window, the old W goes to Rd of the new window. -/
def execXchw (rd rb : BitVec 3) (s : State) : Answer :=
  (s.picked (s.reg rb)).moveWindow (s.pick (s.reg rb)) (s.pick (s.reg rb)) fun t => t.setReg rd (.known s.w)

end Sys2Proof.Machine
end

