-- ==== Sys2Proof/Machine/Dispatch.lean ====
section
/-! DEFINITION. What each instruction does: one call of its meaning per constructor of Instr. -/

namespace Sys2Proof.Machine

/-- The meaning of an instruction in a state (spec/40 to spec/48). -/
def exec (i : Instr) (s : State) : Host.Outcome State Fault Refusal :=
  match i with
  | .add rd ra rb => Sys2Proof.Machine.execAdd rd ra rb s
  | .addi rd ra imm => Sys2Proof.Machine.execAddi rd ra imm s
  | .adc rd ra rb => Sys2Proof.Machine.execAdc rd ra rb s
  | .adci rd ra imm => Sys2Proof.Machine.execAdci rd ra imm s
  | .sub rd ra rb => Sys2Proof.Machine.execSub rd ra rb s
  | .subi rd ra imm => Sys2Proof.Machine.execSubi rd ra imm s
  | .sbc rd ra rb => Sys2Proof.Machine.execSbc rd ra rb s
  | .sbci rd ra imm => Sys2Proof.Machine.execSbci rd ra imm s
  | .cmp ra rb => Sys2Proof.Machine.execCmp ra rb s
  | .cmpi ra imm => Sys2Proof.Machine.execCmpi ra imm s
  | .and rd ra rb => Sys2Proof.Machine.execAnd rd ra rb s
  | .andi rd ra imm => Sys2Proof.Machine.execAndi rd ra imm s
  | .or rd ra rb => Sys2Proof.Machine.execOr rd ra rb s
  | .ori rd ra imm => Sys2Proof.Machine.execOri rd ra imm s
  | .xor rd ra rb => Sys2Proof.Machine.execXor rd ra rb s
  | .xori rd ra imm => Sys2Proof.Machine.execXori rd ra imm s
  | .sll rd ra rb => Sys2Proof.Machine.execSll rd ra rb s
  | .slli rd ra imm => Sys2Proof.Machine.execSlli rd ra imm s
  | .srl rd ra rb => Sys2Proof.Machine.execSrl rd ra rb s
  | .srli rd ra imm => Sys2Proof.Machine.execSrli rd ra imm s
  | .sra rd ra rb => Sys2Proof.Machine.execSra rd ra rb s
  | .srai rd ra imm => Sys2Proof.Machine.execSrai rd ra imm s
  | .rol rd ra rb => Sys2Proof.Machine.execRol rd ra rb s
  | .roli rd ra imm => Sys2Proof.Machine.execRoli rd ra imm s
  | .movi rd imm => Sys2Proof.Machine.execMovi rd imm s
  | .movr rd off => Sys2Proof.Machine.execMovr rd off s
  | .exti imm => Sys2Proof.Machine.execExti imm s
  | .nop => Sys2Proof.Machine.execNop s
  | .adjw imm => Sys2Proof.Machine.execAdjw imm s
  | .ldw rd imm => Sys2Proof.Machine.execLdw rd imm s
  | .stw rb => Sys2Proof.Machine.execStw rb s
  | .xchw rd rb => Sys2Proof.Machine.execXchw rd rb s
  | .ld rd ra off => Sys2Proof.Machine.execLd rd ra off s
  | .ldr rd ra off => Sys2Proof.Machine.execLdr rd ra off s
  | .st rs ra off => Sys2Proof.Machine.execSt rs ra off s
  | .str rs ra off => Sys2Proof.Machine.execStr rs ra off s
  | .ldx rd ra off => Sys2Proof.Machine.execLdx rd ra off s
  | .ldxa rd off => Sys2Proof.Machine.execLdxa rd off s
  | .stx rs ra off => Sys2Proof.Machine.execStx rs ra off s
  | .stxa rs off => Sys2Proof.Machine.execStxa rs off s
  | .j off => Sys2Proof.Machine.execJ off s
  | .jal rd off => Sys2Proof.Machine.execJal rd off s
  | .jr rs off => Sys2Proof.Machine.execJr rs off s
  | .jral rd rb => Sys2Proof.Machine.execJral rd rb s
  | .jst rs off => Sys2Proof.Machine.execJst rs off s
  | .jvt rs off => Sys2Proof.Machine.execJvt rs off s
  | .beq off => Sys2Proof.Machine.execBeq off s
  | .bgts off => Sys2Proof.Machine.execBgts off s
  | .bgtu off => Sys2Proof.Machine.execBgtu off s
  | .bges off => Sys2Proof.Machine.execBges off s
  | .bgeu off => Sys2Proof.Machine.execBgeu off s
  | .bles off => Sys2Proof.Machine.execBles off s
  | .bleu off => Sys2Proof.Machine.execBleu off s
  | .blts off => Sys2Proof.Machine.execBlts off s
  | .bltu off => Sys2Proof.Machine.execBltu off s
  | .bne off => Sys2Proof.Machine.execBne off s
  | .bz off => Sys2Proof.Machine.execBz off s
  | .bnz off => Sys2Proof.Machine.execBnz off s
  | .bs off => Sys2Proof.Machine.execBs off s
  | .bns off => Sys2Proof.Machine.execBns off s
  | .bc off => Sys2Proof.Machine.execBc off s
  | .bnc off => Sys2Proof.Machine.execBnc off s
  | .bv off => Sys2Proof.Machine.execBv off s
  | .bnv off => Sys2Proof.Machine.execBnv off s
  | .bz1 off => Sys2Proof.Machine.execBz1 off s
  | .bz0 off => Sys2Proof.Machine.execBz0 off s
  | .bs1 off => Sys2Proof.Machine.execBs1 off s
  | .bs0 off => Sys2Proof.Machine.execBs0 off s
  | .bc1 off => Sys2Proof.Machine.execBc1 off s
  | .bc0 off => Sys2Proof.Machine.execBc0 off s
  | .bv1 off => Sys2Proof.Machine.execBv1 off s
  | .bv0 off => Sys2Proof.Machine.execBv0 off s

end Sys2Proof.Machine
end

