-- ==== Sys2Proof/Machine/Step.lean ====
section
/-! DEFINITION. One step (spec/00_scope.md R24): fetch the word at `mem[PC]`, decode it, perform its operation; the two
end-of-instruction updates (R32, R55) stand at the end of every meaning. -/

namespace Sys2Proof.Machine

/-- One step: three outcomes, `next`, `fault`, `refused`. A word that is no listed encoding is UNPREDICTABLE when it is
executed (R122, R303). A fetch, a read or a write of a word that does not exist is refused (R77), in the order of R92. -/
def step (s : State) : Host.Outcome State Fault Refusal :=
  s.inMemory [.known s.pc] <|
    match decode s.fetchWord with
    | .ok i =>
      s.afterFetch.inMemory (s.afterFetch.reads i) <|
        s.afterFetch.writesInMemory (s.afterFetch.writes i) (exec i s.afterFetch)
    | .error why => .fault (.unlistedEncoding why)

/-- The state with an instruction's word placed where `step` fetches its next instruction, at PC (R35); it stands for the
load that `MEM_INIT` does (R76; log 18). -/
def State.withFetchWord (s : State) (nbits w : Nat) : State := s.placeAtPc nbits w

end Sys2Proof.Machine
end

