-- ==== Sys2Proof/Machine/Assembler.lean ====
section
/-! DEFINITION. The assembler's part of the spec (spec/30_encoding.md R116, R131 to R134): the long-form split, label
offsets, the choice between short and long form, and the four pseudo-instructions. The hardware knows none of it
(log 31). -/

namespace Sys2Proof.Machine

/-- The EXTI and the low three bits that together encode `v` in a long form (R116). -/
def longForm (v : Word) : Instr × BitVec 3 := (.exti (v.extractLsb' 3 13), v.extractLsb' 0 3)

/-- The offset that reaches a label from an instruction word at `addr` (R131). -/
def labelOffset (label addr : Word) : Word := label - (addr + 1#16)

/-- The short form of an arithmetic or logic constant, where it has one: entry 3 for `IMM_AL_3`, where that was supplied
(R134 (a)). -/
def shortAl (immAl3 : Option Word) (v : Word) : Option (BitVec 3) :=
  match v.toNat with
  | 0x0000 => some 0#3
  | 0x0001 => some 1#3
  | 0x8000 => some 2#3
  | 0x00FF => some 4#3
  | 0xFF00 => some 5#3
  | 0x7FFF => some 6#3
  | 0xFFFF => some 7#3
  | _ => if immAl3 = some v then some 3#3 else none

/-- The short form of a shift or rotate amount: 1 to 8, where 8 is written 0 (R134 (b)). -/
def shortSr (v : Word) : Option (BitVec 3) :=
  if 1 ≤ v.toNat ∧ v.toNat ≤ 8 then some (v.extractLsb' 0 3) else none

/-- The short form of a 5-bit field: -16 to 15 (R134 (c)). -/
def short5 (v : Word) : Option (BitVec 5) :=
  if (v.extractLsb' 0 5).signExtend 16 = v then some (v.extractLsb' 0 5) else none

/-- The short form of an 8-bit field: -128 to 127 (R134 (d)). -/
def short8 (v : Word) : Option (BitVec 8) :=
  if (v.extractLsb' 0 8).signExtend 16 = v then some (v.extractLsb' 0 8) else none

/-- The instructions for an operand: the short form where there is one, else EXTI and the long form (R134, D25). -/
def assemble {n : Nat} (short : Option (BitVec n)) (v : Word) (f : BitVec n → Instr) : List Instr :=
  match short with
  | some x => [f x]
  | none => [(longForm v).1, f ((longForm v).2.setWidth n)]

/-- The pseudo-instructions (R132). -/
inductive Pseudo where
  /-- MOV (R191). -/
  | mov (rd rs : BitVec 3)
  /-- NOT (R167). -/
  | not (rd rs : BitVec 3)
  /-- RORI (R179). -/
  | rori (rd ra : BitVec 3) (amount : Nat)
  /-- XCHG (R194). -/
  | xchg (ra rb : BitVec 3)
deriving DecidableEq, Repr

/-- ROLI by an amount of 0 to 15 in its short or long form. -/
def assembleRoli (rd ra : BitVec 3) (amount : Nat) : List Instr :=
  assemble (shortSr (BitVec.ofNat 16 amount)) (BitVec.ofNat 16 amount) fun imm => .roli rd ra imm

/-- What the assembler emits for a pseudo-instruction (R132). RORI by more than 15 is "not stated" (R179). -/
def Pseudo.expand : Pseudo → Option (List Instr)
  | .mov rd rs => some (if rd = rs then [] else [.and rd rs rs])
  | .not rd rs => some [.xori rd rs 7#3]
  | .rori rd ra amount =>
    if amount > 15 then none
    else if amount = 0 then some (assembleRoli rd ra 0)
    else some (assembleRoli rd ra (16 - amount))
  | .xchg ra rb => some (if ra = rb then [] else [.xor ra ra rb, .xor rb rb ra, .xor ra ra rb])

/-- Instructions executed one after the other in the order written, as where each stands at the address the one before
it leaves in PC. -/
def execAll : List Instr → State → Answer
  | [], s => .next s
  | i :: rest, s =>
    match exec i s with
    | .next t => execAll rest t
    | .fault f => .fault f
    | .refused r => .refused r

end Sys2Proof.Machine
end

