-- ==== Sys2Proof/Machine/Boot.lean ====
section
/-! DEFINITION. The machine right after reset, with the parameters of the implementation as an argument (spec/00_scope.md R5,
spec/10_state.md R59, spec/70_reset_and_hazards.md R331, R347). -/

namespace Sys2Proof.Machine

/-- The memory that holds the words of `MEM_INIT` and nothing else (R76). -/
def Memory.load : List (Word × Word) → Memory
  | [] => []
  | (a, v) :: rest => (Memory.load rest).write a (.known v)

/-- The machine after reset, as the parameters say (R59, R331); none where `RESET_W` is no multiple of 8: "the model refuses the
parameter value" (R42, D3). At the defaults it is `State.reset`. -/
def State.boot (p : Params) : Option State :=
  if p.resetW.extractLsb' 0 3 = 0#3 then
    some {
      pc := p.resetPc
      w := p.resetW
      flags := p.resetFlags
      ext13 := .undefined
      hasExt13 := p.resetHasExt13
      mem := Memory.load p.memInit
      bus := []
      busAnswers := p.busAnswers
      platform := p.toPlatform
      draws := 0 }
  else none

end Sys2Proof.Machine
end

