-- ==== Sys2Proof/Safety.lean ====
section
/-! DEFINITION. What counts as a safe run, the invariant of the machine, and the terms the statements are written in: classes
of instructions, frames, and the results of the ALU in whole numbers. -/

namespace Sys2Proof

/-! ## Classes of instructions -/

/-- The four window instructions (R40, R200). -/
def Instr.movesWindow : Instr → Bool
  | .add _ _ _ => false
  | .addi _ _ _ => false
  | .adc _ _ _ => false
  | .adci _ _ _ => false
  | .sub _ _ _ => false
  | .subi _ _ _ => false
  | .sbc _ _ _ => false
  | .sbci _ _ _ => false
  | .cmp _ _ => false
  | .cmpi _ _ => false
  | .and _ _ _ => false
  | .andi _ _ _ => false
  | .or _ _ _ => false
  | .ori _ _ _ => false
  | .xor _ _ _ => false
  | .xori _ _ _ => false
  | .sll _ _ _ => false
  | .slli _ _ _ => false
  | .srl _ _ _ => false
  | .srli _ _ _ => false
  | .sra _ _ _ => false
  | .srai _ _ _ => false
  | .rol _ _ _ => false
  | .roli _ _ _ => false
  | .movi _ _ => false
  | .movr _ _ => false
  | .exti _ => false
  | .nop => false
  | .adjw _ => true
  | .ldw _ _ => true
  | .stw _ => true
  | .xchw _ _ => true
  | .ld _ _ _ => false
  | .ldr _ _ _ => false
  | .st _ _ _ => false
  | .str _ _ _ => false
  | .ldx _ _ _ => false
  | .ldxa _ _ => false
  | .stx _ _ _ => false
  | .stxa _ _ => false
  | .j _ => false
  | .jal _ _ => false
  | .jr _ _ => false
  | .jral _ _ => false
  | .jst _ _ => false
  | .jvt _ _ => false
  | .beq _ => false
  | .bgts _ => false
  | .bgtu _ => false
  | .bges _ => false
  | .bgeu _ => false
  | .bles _ => false
  | .bleu _ => false
  | .blts _ => false
  | .bltu _ => false
  | .bne _ => false
  | .bz _ => false
  | .bnz _ => false
  | .bs _ => false
  | .bns _ => false
  | .bc _ => false
  | .bnc _ => false
  | .bv _ => false
  | .bnv _ => false
  | .bz1 _ => false
  | .bz0 _ => false
  | .bs1 _ => false
  | .bs0 _ => false
  | .bc1 _ => false
  | .bc0 _ => false
  | .bv1 _ => false
  | .bv0 _ => false

/-- The ALU instructions, which write the flags (R50). -/
def Instr.setsFlags : Instr → Bool
  | .add _ _ _ => true
  | .addi _ _ _ => true
  | .adc _ _ _ => true
  | .adci _ _ _ => true
  | .sub _ _ _ => true
  | .subi _ _ _ => true
  | .sbc _ _ _ => true
  | .sbci _ _ _ => true
  | .cmp _ _ => true
  | .cmpi _ _ => true
  | .and _ _ _ => true
  | .andi _ _ _ => true
  | .or _ _ _ => true
  | .ori _ _ _ => true
  | .xor _ _ _ => true
  | .xori _ _ _ => true
  | .sll _ _ _ => true
  | .slli _ _ _ => true
  | .srl _ _ _ => true
  | .srli _ _ _ => true
  | .sra _ _ _ => true
  | .srai _ _ _ => true
  | .rol _ _ _ => true
  | .roli _ _ _ => true
  | .movi _ _ => false
  | .movr _ _ => false
  | .exti _ => false
  | .nop => false
  | .adjw _ => false
  | .ldw _ _ => false
  | .stw _ => false
  | .xchw _ _ => false
  | .ld _ _ _ => false
  | .ldr _ _ _ => false
  | .st _ _ _ => false
  | .str _ _ _ => false
  | .ldx _ _ _ => false
  | .ldxa _ _ => false
  | .stx _ _ _ => false
  | .stxa _ _ => false
  | .j _ => false
  | .jal _ _ => false
  | .jr _ _ => false
  | .jral _ _ => false
  | .jst _ _ => false
  | .jvt _ _ => false
  | .beq _ => false
  | .bgts _ => false
  | .bgtu _ => false
  | .bges _ => false
  | .bgeu _ => false
  | .bles _ => false
  | .bleu _ => false
  | .blts _ => false
  | .bltu _ => false
  | .bne _ => false
  | .bz _ => false
  | .bnz _ => false
  | .bs _ => false
  | .bns _ => false
  | .bc _ => false
  | .bnc _ => false
  | .bv _ => false
  | .bnv _ => false
  | .bz1 _ => false
  | .bz0 _ => false
  | .bs1 _ => false
  | .bs0 _ => false
  | .bc1 _ => false
  | .bc0 _ => false
  | .bv1 _ => false
  | .bv0 _ => false

/-- The instructions whose operation assigns PC (R32): the conditional branches, NOP, J, JAL, JR, JRAL, JST, JVT. -/
def Instr.assignsPc : Instr → Bool
  | .add _ _ _ => false
  | .addi _ _ _ => false
  | .adc _ _ _ => false
  | .adci _ _ _ => false
  | .sub _ _ _ => false
  | .subi _ _ _ => false
  | .sbc _ _ _ => false
  | .sbci _ _ _ => false
  | .cmp _ _ => false
  | .cmpi _ _ => false
  | .and _ _ _ => false
  | .andi _ _ _ => false
  | .or _ _ _ => false
  | .ori _ _ _ => false
  | .xor _ _ _ => false
  | .xori _ _ _ => false
  | .sll _ _ _ => false
  | .slli _ _ _ => false
  | .srl _ _ _ => false
  | .srli _ _ _ => false
  | .sra _ _ _ => false
  | .srai _ _ _ => false
  | .rol _ _ _ => false
  | .roli _ _ _ => false
  | .movi _ _ => false
  | .movr _ _ => false
  | .exti _ => false
  | .nop => true
  | .adjw _ => false
  | .ldw _ _ => false
  | .stw _ => false
  | .xchw _ _ => false
  | .ld _ _ _ => false
  | .ldr _ _ _ => false
  | .st _ _ _ => false
  | .str _ _ _ => false
  | .ldx _ _ _ => false
  | .ldxa _ _ => false
  | .stx _ _ _ => false
  | .stxa _ _ => false
  | .j _ => true
  | .jal _ _ => true
  | .jr _ _ => true
  | .jral _ _ => true
  | .jst _ _ => true
  | .jvt _ _ => true
  | .beq _ => true
  | .bgts _ => true
  | .bgtu _ => true
  | .bges _ => true
  | .bgeu _ => true
  | .bles _ => true
  | .bleu _ => true
  | .blts _ => true
  | .bltu _ => true
  | .bne _ => true
  | .bz _ => true
  | .bnz _ => true
  | .bs _ => true
  | .bns _ => true
  | .bc _ => true
  | .bnc _ => true
  | .bv _ => true
  | .bnv _ => true
  | .bz1 _ => true
  | .bz0 _ => true
  | .bs1 _ => true
  | .bs0 _ => true
  | .bc1 _ => true
  | .bc0 _ => true
  | .bv1 _ => true
  | .bv0 _ => true

/-- EXTI. -/
def Instr.isExti : Instr → Bool
  | .add _ _ _ => false
  | .addi _ _ _ => false
  | .adc _ _ _ => false
  | .adci _ _ _ => false
  | .sub _ _ _ => false
  | .subi _ _ _ => false
  | .sbc _ _ _ => false
  | .sbci _ _ _ => false
  | .cmp _ _ => false
  | .cmpi _ _ => false
  | .and _ _ _ => false
  | .andi _ _ _ => false
  | .or _ _ _ => false
  | .ori _ _ _ => false
  | .xor _ _ _ => false
  | .xori _ _ _ => false
  | .sll _ _ _ => false
  | .slli _ _ _ => false
  | .srl _ _ _ => false
  | .srli _ _ _ => false
  | .sra _ _ _ => false
  | .srai _ _ _ => false
  | .rol _ _ _ => false
  | .roli _ _ _ => false
  | .movi _ _ => false
  | .movr _ _ => false
  | .exti _ => true
  | .nop => false
  | .adjw _ => false
  | .ldw _ _ => false
  | .stw _ => false
  | .xchw _ _ => false
  | .ld _ _ _ => false
  | .ldr _ _ _ => false
  | .st _ _ _ => false
  | .str _ _ _ => false
  | .ldx _ _ _ => false
  | .ldxa _ _ => false
  | .stx _ _ _ => false
  | .stxa _ _ => false
  | .j _ => false
  | .jal _ _ => false
  | .jr _ _ => false
  | .jral _ _ => false
  | .jst _ _ => false
  | .jvt _ _ => false
  | .beq _ => false
  | .bgts _ => false
  | .bgtu _ => false
  | .bges _ => false
  | .bgeu _ => false
  | .bles _ => false
  | .bleu _ => false
  | .blts _ => false
  | .bltu _ => false
  | .bne _ => false
  | .bz _ => false
  | .bnz _ => false
  | .bs _ => false
  | .bns _ => false
  | .bc _ => false
  | .bnc _ => false
  | .bv _ => false
  | .bnv _ => false
  | .bz1 _ => false
  | .bz0 _ => false
  | .bs1 _ => false
  | .bs0 _ => false
  | .bc1 _ => false
  | .bc0 _ => false
  | .bv1 _ => false
  | .bv0 _ => false

/-- The four external-bus instructions (R81). -/
def Instr.usesBus : Instr → Bool
  | .add _ _ _ => false
  | .addi _ _ _ => false
  | .adc _ _ _ => false
  | .adci _ _ _ => false
  | .sub _ _ _ => false
  | .subi _ _ _ => false
  | .sbc _ _ _ => false
  | .sbci _ _ _ => false
  | .cmp _ _ => false
  | .cmpi _ _ => false
  | .and _ _ _ => false
  | .andi _ _ _ => false
  | .or _ _ _ => false
  | .ori _ _ _ => false
  | .xor _ _ _ => false
  | .xori _ _ _ => false
  | .sll _ _ _ => false
  | .slli _ _ _ => false
  | .srl _ _ _ => false
  | .srli _ _ _ => false
  | .sra _ _ _ => false
  | .srai _ _ _ => false
  | .rol _ _ _ => false
  | .roli _ _ _ => false
  | .movi _ _ => false
  | .movr _ _ => false
  | .exti _ => false
  | .nop => false
  | .adjw _ => false
  | .ldw _ _ => false
  | .stw _ => false
  | .xchw _ _ => false
  | .ld _ _ _ => false
  | .ldr _ _ _ => false
  | .st _ _ _ => false
  | .str _ _ _ => false
  | .ldx _ _ _ => true
  | .ldxa _ _ => true
  | .stx _ _ _ => true
  | .stxa _ _ => true
  | .j _ => false
  | .jal _ _ => false
  | .jr _ _ => false
  | .jral _ _ => false
  | .jst _ _ => false
  | .jvt _ _ => false
  | .beq _ => false
  | .bgts _ => false
  | .bgtu _ => false
  | .bges _ => false
  | .bgeu _ => false
  | .bles _ => false
  | .bleu _ => false
  | .blts _ => false
  | .bltu _ => false
  | .bne _ => false
  | .bz _ => false
  | .bnz _ => false
  | .bs _ => false
  | .bns _ => false
  | .bc _ => false
  | .bnc _ => false
  | .bv _ => false
  | .bnv _ => false
  | .bz1 _ => false
  | .bz0 _ => false
  | .bs1 _ => false
  | .bs0 _ => false
  | .bc1 _ => false
  | .bc0 _ => false
  | .bv1 _ => false
  | .bv0 _ => false

/-- The eight shift and rotate instructions (R170). -/
def Instr.isShift : Instr → Bool
  | .add _ _ _ => false
  | .addi _ _ _ => false
  | .adc _ _ _ => false
  | .adci _ _ _ => false
  | .sub _ _ _ => false
  | .subi _ _ _ => false
  | .sbc _ _ _ => false
  | .sbci _ _ _ => false
  | .cmp _ _ => false
  | .cmpi _ _ => false
  | .and _ _ _ => false
  | .andi _ _ _ => false
  | .or _ _ _ => false
  | .ori _ _ _ => false
  | .xor _ _ _ => false
  | .xori _ _ _ => false
  | .sll _ _ _ => true
  | .slli _ _ _ => true
  | .srl _ _ _ => true
  | .srli _ _ _ => true
  | .sra _ _ _ => true
  | .srai _ _ _ => true
  | .rol _ _ _ => true
  | .roli _ _ _ => true
  | .movi _ _ => false
  | .movr _ _ => false
  | .exti _ => false
  | .nop => false
  | .adjw _ => false
  | .ldw _ _ => false
  | .stw _ => false
  | .xchw _ _ => false
  | .ld _ _ _ => false
  | .ldr _ _ _ => false
  | .st _ _ _ => false
  | .str _ _ _ => false
  | .ldx _ _ _ => false
  | .ldxa _ _ => false
  | .stx _ _ _ => false
  | .stxa _ _ => false
  | .j _ => false
  | .jal _ _ => false
  | .jr _ _ => false
  | .jral _ _ => false
  | .jst _ _ => false
  | .jvt _ _ => false
  | .beq _ => false
  | .bgts _ => false
  | .bgtu _ => false
  | .bges _ => false
  | .bgeu _ => false
  | .bles _ => false
  | .bleu _ => false
  | .blts _ => false
  | .bltu _ => false
  | .bne _ => false
  | .bz _ => false
  | .bnz _ => false
  | .bs _ => false
  | .bns _ => false
  | .bc _ => false
  | .bnc _ => false
  | .bv _ => false
  | .bnv _ => false
  | .bz1 _ => false
  | .bz0 _ => false
  | .bs1 _ => false
  | .bs0 _ => false
  | .bc1 _ => false
  | .bc0 _ => false
  | .bv1 _ => false
  | .bv0 _ => false

/-- The logic, shift and rotate instructions, after which C and V are UNDEFINED (R50). -/
def Instr.isLogicOrShift : Instr → Bool
  | .add _ _ _ => false
  | .addi _ _ _ => false
  | .adc _ _ _ => false
  | .adci _ _ _ => false
  | .sub _ _ _ => false
  | .subi _ _ _ => false
  | .sbc _ _ _ => false
  | .sbci _ _ _ => false
  | .cmp _ _ => false
  | .cmpi _ _ => false
  | .and _ _ _ => true
  | .andi _ _ _ => true
  | .or _ _ _ => true
  | .ori _ _ _ => true
  | .xor _ _ _ => true
  | .xori _ _ _ => true
  | .sll _ _ _ => true
  | .slli _ _ _ => true
  | .srl _ _ _ => true
  | .srli _ _ _ => true
  | .sra _ _ _ => true
  | .srai _ _ _ => true
  | .rol _ _ _ => true
  | .roli _ _ _ => true
  | .movi _ _ => false
  | .movr _ _ => false
  | .exti _ => false
  | .nop => false
  | .adjw _ => false
  | .ldw _ _ => false
  | .stw _ => false
  | .xchw _ _ => false
  | .ld _ _ _ => false
  | .ldr _ _ _ => false
  | .st _ _ _ => false
  | .str _ _ _ => false
  | .ldx _ _ _ => false
  | .ldxa _ _ => false
  | .stx _ _ _ => false
  | .stxa _ _ => false
  | .j _ => false
  | .jal _ _ => false
  | .jr _ _ => false
  | .jral _ _ => false
  | .jst _ _ => false
  | .jvt _ _ => false
  | .beq _ => false
  | .bgts _ => false
  | .bgtu _ => false
  | .bges _ => false
  | .bgeu _ => false
  | .bles _ => false
  | .bleu _ => false
  | .blts _ => false
  | .bltu _ => false
  | .bne _ => false
  | .bz _ => false
  | .bnz _ => false
  | .bs _ => false
  | .bns _ => false
  | .bc _ => false
  | .bnc _ => false
  | .bv _ => false
  | .bnv _ => false
  | .bz1 _ => false
  | .bz0 _ => false
  | .bs1 _ => false
  | .bs0 _ => false
  | .bc1 _ => false
  | .bc0 _ => false
  | .bv1 _ => false
  | .bv0 _ => false

/-- The number in the 5-bit or 8-bit field of an instruction that has one (R114, R115). -/
def Instr.wideField : Instr → Option Nat
  | .add _ _ _ => none
  | .addi _ _ _ => none
  | .adc _ _ _ => none
  | .adci _ _ _ => none
  | .sub _ _ _ => none
  | .subi _ _ _ => none
  | .sbc _ _ _ => none
  | .sbci _ _ _ => none
  | .cmp _ _ => none
  | .cmpi _ _ => none
  | .and _ _ _ => none
  | .andi _ _ _ => none
  | .or _ _ _ => none
  | .ori _ _ _ => none
  | .xor _ _ _ => none
  | .xori _ _ _ => none
  | .sll _ _ _ => none
  | .slli _ _ _ => none
  | .srl _ _ _ => none
  | .srli _ _ _ => none
  | .sra _ _ _ => none
  | .srai _ _ _ => none
  | .rol _ _ _ => none
  | .roli _ _ _ => none
  | .movi _ imm => some imm.toNat
  | .movr _ off => some off.toNat
  | .exti _ => none
  | .nop => none
  | .adjw imm => some imm.toNat
  | .ldw _ imm => some imm.toNat
  | .stw _ => none
  | .xchw _ _ => none
  | .ld _ _ off => some off.toNat
  | .ldr _ _ off => some off.toNat
  | .st _ _ off => some off.toNat
  | .str _ _ off => some off.toNat
  | .ldx _ _ off => some off.toNat
  | .ldxa _ off => some off.toNat
  | .stx _ _ off => some off.toNat
  | .stxa _ off => some off.toNat
  | .j off => some off.toNat
  | .jal _ off => some off.toNat
  | .jr _ off => some off.toNat
  | .jral _ _ => none
  | .jst _ off => some off.toNat
  | .jvt _ off => some off.toNat
  | .beq off => some off.toNat
  | .bgts off => some off.toNat
  | .bgtu off => some off.toNat
  | .bges off => some off.toNat
  | .bgeu off => some off.toNat
  | .bles off => some off.toNat
  | .bleu off => some off.toNat
  | .blts off => some off.toNat
  | .bltu off => some off.toNat
  | .bne off => some off.toNat
  | .bz off => some off.toNat
  | .bnz off => some off.toNat
  | .bs off => some off.toNat
  | .bns off => some off.toNat
  | .bc off => some off.toNat
  | .bnc off => some off.toNat
  | .bv off => some off.toNat
  | .bnv off => some off.toNat
  | .bz1 off => some off.toNat
  | .bz0 off => some off.toNat
  | .bs1 off => some off.toNat
  | .bs0 off => some off.toNat
  | .bc1 off => some off.toNat
  | .bc0 off => some off.toNat
  | .bv1 off => some off.toNat
  | .bv0 off => some off.toNat

/-- The 3-bit field of an arithmetic or logic immediate, in the eight instructions that have one (R112). -/
def Instr.alField : Instr → Option (BitVec 3)
  | .add _ _ _ => none
  | .addi _ _ imm => some imm
  | .adc _ _ _ => none
  | .adci _ _ imm => some imm
  | .sub _ _ _ => none
  | .subi _ _ imm => some imm
  | .sbc _ _ _ => none
  | .sbci _ _ imm => some imm
  | .cmp _ _ => none
  | .cmpi _ imm => some imm
  | .and _ _ _ => none
  | .andi _ _ imm => some imm
  | .or _ _ _ => none
  | .ori _ _ imm => some imm
  | .xor _ _ _ => none
  | .xori _ _ imm => some imm
  | .sll _ _ _ => none
  | .slli _ _ _ => none
  | .srl _ _ _ => none
  | .srli _ _ _ => none
  | .sra _ _ _ => none
  | .srai _ _ _ => none
  | .rol _ _ _ => none
  | .roli _ _ _ => none
  | .movi _ _ => none
  | .movr _ _ => none
  | .exti _ => none
  | .nop => none
  | .adjw _ => none
  | .ldw _ _ => none
  | .stw _ => none
  | .xchw _ _ => none
  | .ld _ _ _ => none
  | .ldr _ _ _ => none
  | .st _ _ _ => none
  | .str _ _ _ => none
  | .ldx _ _ _ => none
  | .ldxa _ _ => none
  | .stx _ _ _ => none
  | .stxa _ _ => none
  | .j _ => none
  | .jal _ _ => none
  | .jr _ _ => none
  | .jral _ _ => none
  | .jst _ _ => none
  | .jvt _ _ => none
  | .beq _ => none
  | .bgts _ => none
  | .bgtu _ => none
  | .bges _ => none
  | .bgeu _ => none
  | .bles _ => none
  | .bleu _ => none
  | .blts _ => none
  | .bltu _ => none
  | .bne _ => none
  | .bz _ => none
  | .bnz _ => none
  | .bs _ => none
  | .bns _ => none
  | .bc _ => none
  | .bnc _ => none
  | .bv _ => none
  | .bnv _ => none
  | .bz1 _ => none
  | .bz0 _ => none
  | .bs1 _ => none
  | .bs0 _ => none
  | .bc1 _ => none
  | .bc0 _ => none
  | .bv1 _ => none
  | .bv0 _ => none

/-- The general register an instruction writes, if it writes one (R92). -/
def Instr.dest : Instr → Option (BitVec 3)
  | .add rd _ _ => some rd
  | .addi rd _ _ => some rd
  | .adc rd _ _ => some rd
  | .adci rd _ _ => some rd
  | .sub rd _ _ => some rd
  | .subi rd _ _ => some rd
  | .sbc rd _ _ => some rd
  | .sbci rd _ _ => some rd
  | .cmp _ _ => none
  | .cmpi _ _ => none
  | .and rd _ _ => some rd
  | .andi rd _ _ => some rd
  | .or rd _ _ => some rd
  | .ori rd _ _ => some rd
  | .xor rd _ _ => some rd
  | .xori rd _ _ => some rd
  | .sll rd _ _ => some rd
  | .slli rd _ _ => some rd
  | .srl rd _ _ => some rd
  | .srli rd _ _ => some rd
  | .sra rd _ _ => some rd
  | .srai rd _ _ => some rd
  | .rol rd _ _ => some rd
  | .roli rd _ _ => some rd
  | .movi rd _ => some rd
  | .movr rd _ => some rd
  | .exti _ => none
  | .nop => none
  | .adjw _ => none
  | .ldw rd _ => some rd
  | .stw _ => none
  | .xchw rd _ => some rd
  | .ld rd _ _ => some rd
  | .ldr rd _ _ => some rd
  | .st _ _ _ => none
  | .str _ _ _ => none
  | .ldx rd _ _ => some rd
  | .ldxa rd _ => some rd
  | .stx _ _ _ => none
  | .stxa _ _ => none
  | .j _ => none
  | .jal rd _ => some rd
  | .jr _ _ => none
  | .jral rd _ => some rd
  | .jst _ _ => none
  | .jvt _ _ => none
  | .beq _ => none
  | .bgts _ => none
  | .bgtu _ => none
  | .bges _ => none
  | .bgeu _ => none
  | .bles _ => none
  | .bleu _ => none
  | .blts _ => none
  | .bltu _ => none
  | .bne _ => none
  | .bz _ => none
  | .bnz _ => none
  | .bs _ => none
  | .bns _ => none
  | .bc _ => none
  | .bnc _ => none
  | .bv _ => none
  | .bnv _ => none
  | .bz1 _ => none
  | .bz0 _ => none
  | .bs1 _ => none
  | .bs0 _ => none
  | .bc1 _ => none
  | .bc0 _ => none
  | .bv1 _ => none
  | .bv0 _ => none

namespace Machine

/-! ## Operands in whole numbers (R112 to R115) -/

/-- The long form's value, `ext13 * 8 + low` (R112, R116). -/
def longValue (s : State) (low : Nat) : Val Word := s.ext13.map fun h => BitVec.ofNat 16 (h.toNat * 8 + low)

/-- The operand of an arithmetic or logic immediate, the table of R14 written as a list; none for entry 3 where `IMM_AL_3` was
not supplied (R303). -/
def operandAl (s : State) (imm : BitVec 3) : Option (Val Word) :=
  if s.hasExt13 then some (longValue s imm.toNat)
  else if imm = 3#3 then s.platform.immAl3.map .known
  else some (.known ([0x0000#16, 0x0001#16, 0x8000#16, 0#16, 0x00FF#16, 0xFF00#16, 0x7FFF#16, 0xFFFF#16].getD imm.toNat 0#16))

/-- The operand of a shift or rotate immediate (R113; the table of R15: 8 if imm3 = 0, else imm3). -/
def operandSr (s : State) (imm : BitVec 3) : Val Word :=
  if s.hasExt13 then longValue s imm.toNat else .known (if imm = 0#3 then 8#16 else BitVec.ofNat 16 imm.toNat)

/-- A 5-bit or 8-bit field is legal: in a long form its bits above bit 2 are zero (R117). -/
def FieldLegal {n : Nat} (s : State) (f : BitVec n) : Prop := s.hasExt13 = true → f.toNat < 8

/-- The operand of a legal 5-bit or 8-bit field (R114, R115): the field as a signed number, or in the long form
`ext13 * 8` plus its low three bits. -/
def operandField {n : Nat} (s : State) (f : BitVec n) : Val Word :=
  if s.hasExt13 then longValue s (f.toNat % 8) else .known (BitVec.ofInt 16 f.toInt)

/-- The amount that a shift or rotate instruction tests (R180). -/
def testedAmount (s : State) : Instr → Option (Val Word)
  | .add _ _ _ => none
  | .addi _ _ _ => none
  | .adc _ _ _ => none
  | .adci _ _ _ => none
  | .sub _ _ _ => none
  | .subi _ _ _ => none
  | .sbc _ _ _ => none
  | .sbci _ _ _ => none
  | .cmp _ _ => none
  | .cmpi _ _ => none
  | .and _ _ _ => none
  | .andi _ _ _ => none
  | .or _ _ _ => none
  | .ori _ _ _ => none
  | .xor _ _ _ => none
  | .xori _ _ _ => none
  | .sll _ _ rb => some (s.reg rb)
  | .slli _ _ imm => some (operandSr s imm)
  | .srl _ _ rb => some (s.reg rb)
  | .srli _ _ imm => some (operandSr s imm)
  | .sra _ _ rb => some (s.reg rb)
  | .srai _ _ imm => some (operandSr s imm)
  | .rol _ _ rb => some (s.reg rb)
  | .roli _ _ imm => some (operandSr s imm)
  | .movi _ _ => none
  | .movr _ _ => none
  | .exti _ => none
  | .nop => none
  | .adjw _ => none
  | .ldw _ _ => none
  | .stw _ => none
  | .xchw _ _ => none
  | .ld _ _ _ => none
  | .ldr _ _ _ => none
  | .st _ _ _ => none
  | .str _ _ _ => none
  | .ldx _ _ _ => none
  | .ldxa _ _ => none
  | .stx _ _ _ => none
  | .stxa _ _ => none
  | .j _ => none
  | .jal _ _ => none
  | .jr _ _ => none
  | .jral _ _ => none
  | .jst _ _ => none
  | .jvt _ _ => none
  | .beq _ => none
  | .bgts _ => none
  | .bgtu _ => none
  | .bges _ => none
  | .bgeu _ => none
  | .bles _ => none
  | .bleu _ => none
  | .blts _ => none
  | .bltu _ => none
  | .bne _ => none
  | .bz _ => none
  | .bnz _ => none
  | .bs _ => none
  | .bns _ => none
  | .bc _ => none
  | .bnc _ => none
  | .bv _ => none
  | .bnv _ => none
  | .bz1 _ => none
  | .bz0 _ => none
  | .bs1 _ => none
  | .bs0 _ => none
  | .bc1 _ => none
  | .bc0 _ => none
  | .bv1 _ => none
  | .bv0 _ => none

/-- The value that a window instruction adds to W or loads into it (R200 (c)). -/
def givenWindow (s : State) : Instr → Option (Val Word)
  | .add _ _ _ => none
  | .addi _ _ _ => none
  | .adc _ _ _ => none
  | .adci _ _ _ => none
  | .sub _ _ _ => none
  | .subi _ _ _ => none
  | .sbc _ _ _ => none
  | .sbci _ _ _ => none
  | .cmp _ _ => none
  | .cmpi _ _ => none
  | .and _ _ _ => none
  | .andi _ _ _ => none
  | .or _ _ _ => none
  | .ori _ _ _ => none
  | .xor _ _ _ => none
  | .xori _ _ _ => none
  | .sll _ _ _ => none
  | .slli _ _ _ => none
  | .srl _ _ _ => none
  | .srli _ _ _ => none
  | .sra _ _ _ => none
  | .srai _ _ _ => none
  | .rol _ _ _ => none
  | .roli _ _ _ => none
  | .movi _ _ => none
  | .movr _ _ => none
  | .exti _ => none
  | .nop => none
  | .adjw imm => some (operandField s imm)
  | .ldw _ imm => some (operandField s imm)
  | .stw rb => some (s.reg rb)
  | .xchw _ rb => some (s.reg rb)
  | .ld _ _ _ => none
  | .ldr _ _ _ => none
  | .st _ _ _ => none
  | .str _ _ _ => none
  | .ldx _ _ _ => none
  | .ldxa _ _ => none
  | .stx _ _ _ => none
  | .stxa _ _ => none
  | .j _ => none
  | .jal _ _ => none
  | .jr _ _ => none
  | .jral _ _ => none
  | .jst _ _ => none
  | .jvt _ _ => none
  | .beq _ => none
  | .bgts _ => none
  | .bgtu _ => none
  | .bges _ => none
  | .bgeu _ => none
  | .bles _ => none
  | .bleu _ => none
  | .blts _ => none
  | .bltu _ => none
  | .bne _ => none
  | .bz _ => none
  | .bnz _ => none
  | .bs _ => none
  | .bns _ => none
  | .bc _ => none
  | .bnc _ => none
  | .bv _ => none
  | .bnv _ => none
  | .bz1 _ => none
  | .bz0 _ => none
  | .bs1 _ => none
  | .bs0 _ => none
  | .bc1 _ => none
  | .bc0 _ => none
  | .bv1 _ => none
  | .bv0 _ => none

/-! ## Results of the ALU in whole numbers -/

/-- The flags of a defined result: Z and S from the word (R46, R47), C and V as given. -/
def flagsOf (value : Word) (c v : Bool) : Flags where
  z := .known (decide (value.toNat = 0))
  s := .known (decide (32768 ≤ value.toNat))
  c := .known c
  v := .known v

/-- Whether a whole number is outside -32,768 to 32,767. -/
def outsideSigned (n : Int) : Bool := decide (n < -32768 ∨ 32767 < n)

/-- `a + b + c` in whole numbers (R151): the sum modulo 65,536, C if it is 65,536 or more, V if the signed sum is outside
the 16-bit range; everything UNDEFINED if an input is (R140 (h)). -/
def sumOf (a b : Val Word) (c : Val Bool) : AluResult :=
  match a, b, c with
  | .known a, .known b, .known c =>
    let sum := a.toNat + b.toNat + c.toNat
    { value := .known (BitVec.ofNat 16 sum)
      flags := flagsOf (BitVec.ofNat 16 sum) (decide (65536 ≤ sum)) (outsideSigned (a.toInt + b.toInt + c.toNat)) }
  | _, _, _ => AluResult.undefined

/-- `a - b - (1 - c)` in whole numbers (R151): C if there is no borrow, V if the signed difference is outside the 16-bit
range; everything UNDEFINED if an input is. -/
def differenceOf (a b : Val Word) (c : Val Bool) : AluResult :=
  match a, b, c with
  | .known a, .known b, .known c =>
    let diff : Int := a.toNat - b.toNat - (1 - c.toNat)
    { value := .known (BitVec.ofInt 16 diff)
      flags := flagsOf (BitVec.ofInt 16 diff) (decide (0 ≤ diff)) (outsideSigned (a.toInt - b.toInt - (1 - c.toNat))) }
  | _, _, _ => AluResult.undefined

/-- The result of a logic, shift or rotate operation: Z and S from the word, C and V UNDEFINED, all of it UNDEFINED if the
word is (R160 (d), (h), R170 (d)). -/
def wordResultOf (value : Val Word) : AluResult where
  value := value
  flags := {
    z := value.map fun x => decide (x.toNat = 0)
    s := value.map fun x => decide (32768 ≤ x.toNat)
    c := .undefined
    v := .undefined }

/-- `x * 2^n` modulo 65,536 (R171). -/
def shiftedLeft (x : Word) (n : Nat) : Word := BitVec.ofNat 16 (x.toNat * 2 ^ n)

/-- `floor (x / 2^n)` of the unsigned reading (R173). -/
def shiftedRight (x : Word) (n : Nat) : Word := BitVec.ofNat 16 (x.toNat / 2 ^ n)

/-- `floor (x / 2^n)` of the signed reading (R175). -/
def shiftedRightSigned (x : Word) (n : Nat) : Word := BitVec.ofInt 16 (Int.fdiv x.toInt (2 ^ n))

/-- `x * 2^n`, what it carries above bit 15 coming back below (R177). -/
def rotatedLeft (x : Word) (n : Nat) : Word := BitVec.ofNat 16 (x.toNat * 2 ^ n % 65536 + x.toNat * 2 ^ n / 65536)

/-! ## Frames -/

/-- Every word of memory but the one at `a` reads as before. -/
def SameMemBut (s t : State) (a : Word) : Prop := ∀ b, b ≠ a → t.mem.read b = s.mem.read b

/-- Every word of memory reads as before; so every general register does, W being the same. -/
def SameMem (s t : State) : Prop := ∀ b, t.mem.read b = s.mem.read b

/-- has_ext13 is 0 and ext13 UNDEFINED, as after every instruction but EXTI (R55). -/
def PrefixCleared (t : State) : Prop := t.hasExt13 = false ∧ t.ext13 = .undefined

/-- W, the bus record with the answers still to come, the parameters and the counter of free values are as before. -/
def SameWindowAndBus (s t : State) : Prop :=
  t.w = s.w ∧ t.bus = s.bus ∧ t.busAnswers = s.busAnswers ∧ t.platform = s.platform ∧ t.draws = s.draws

/-- Everything but the contents of memory is the same. -/
def SameCpu (t u : State) : Prop :=
  u.pc = t.pc ∧ u.flags = t.flags ∧ u.ext13 = t.ext13 ∧ u.hasExt13 = t.hasExt13 ∧ SameWindowAndBus t u

/-- The words of memory that a step running `i` fetches and reads exist (R77, R92). -/
def ReadsExist (i : Instr) (s : State) : Prop :=
  s.populated (.known s.pc) = true ∧ ∀ a ∈ s.reads i, s.populated a = true

/-- The word of memory that `i` writes exists, if it writes one (R77, R92). -/
def WritesExist (i : Instr) (s : State) : Prop := ∀ a ∈ s.writes i, s.populated a = true

/-- The state after an ALU instruction that writes Rd: the register and the flags as `r` says, PC at the next word, and
nothing else changed. -/
def AluPost (s t : State) (rd : BitVec 3) (r : AluResult) : Prop :=
  t.reg rd = r.value ∧ t.flags = r.flags ∧ t.pc = s.pc + 1#16 ∧
    SameWindowAndBus s t ∧ PrefixCleared t ∧ SameMemBut s t (s.regAddr rd)

/-- The state after a logic instruction: bit i of the word is `f` of the operands' bits i (R160 (b)), and the word is UNDEFINED
if an operand is (R160 (h)). -/
def BitwisePost (s t : State) (rd : BitVec 3) (f : Bool → Bool → Bool) (a b : Val Word) : Prop :=
  ∃ v, AluPost s t rd (wordResultOf v) ∧
    match a, b with
    | .known x, .known y => ∃ w : Word, v = .known w ∧ ∀ i, i < 16 → w.getLsbD i = f (x.getLsbD i) (y.getLsbD i)
    | _, _ => v = .undefined

/-- The state after CMP or CMPI: the flags as `r` says, PC at the next word, and nothing else changed, no register. -/
def ComparePost (s t : State) (r : AluResult) : Prop :=
  t.flags = r.flags ∧ t.pc = s.pc + 1#16 ∧ SameWindowAndBus s t ∧ PrefixCleared t ∧ SameMem s t

/-- The state after an instruction that only writes `value` to Rd: PC at `pc`, and nothing else changed, no flag. -/
def RegPost (s t : State) (rd : BitVec 3) (value : Val Word) (pc : Word) : Prop :=
  t.reg rd = value ∧ t.pc = pc ∧ t.flags = s.flags ∧
    SameWindowAndBus s t ∧ PrefixCleared t ∧ SameMemBut s t (s.regAddr rd)

/-- The state after an instruction that only assigns PC: no register, flag, memory word or bus record changed. -/
def JumpPost (s t : State) (pc : Word) : Prop :=
  t.pc = pc ∧ t.flags = s.flags ∧ SameWindowAndBus s t ∧ PrefixCleared t ∧ SameMem s t

/-- The state after a window instruction that writes no register: W is `w`, PC at the next word, and nothing else changed, so
every memory word keeps its value. -/
def WindowPost (s t : State) (w : Word) : Prop :=
  t.w = w ∧ t.pc = s.pc + 1#16 ∧ t.flags = s.flags ∧ t.bus = s.bus ∧ t.busAnswers = s.busAnswers ∧
    t.platform = s.platform ∧ t.draws = s.draws ∧ PrefixCleared t ∧ SameMem s t

/-- The state after LDW or XCHW: W is `w`, register Rd of that new window holds the old W, and nothing else changed. -/
def WindowSavePost (s t : State) (w : Word) (rd : BitVec 3) : Prop :=
  t.w = w ∧ t.reg rd = .known s.w ∧ t.pc = s.pc + 1#16 ∧ t.flags = s.flags ∧ t.bus = s.bus ∧
    t.busAnswers = s.busAnswers ∧ t.platform = s.platform ∧ t.draws = s.draws ∧ PrefixCleared t ∧
    SameMemBut s t (w + rd.setWidth 16)

/-- The state after a store of `value` at `addr`: that one word, PC at the next word, and nothing else changed. -/
def StorePost (s t : State) (addr : Word) (value : Val Word) : Prop :=
  t.mem.read addr = value ∧ t.pc = s.pc + 1#16 ∧ t.flags = s.flags ∧ SameWindowAndBus s t ∧ PrefixCleared t ∧
    SameMemBut s t addr

/-- What the bus answers to a read at a defined address: the next supplied answer, or what the oracle says of the history and the
address (R82). -/
def busAnswer (s : State) (a : Word) : Word :=
  match s.busAnswers with
  | v :: _ => v
  | [] => Config.extOracle s.bus a

/-- The state after a bus load at `addr`: one read transaction, its answer in Rd (UNDEFINED at an UNDEFINED address), one supplied
answer used if there is one, PC at the next word, and nothing else changed. -/
def BusLoadPost (s t : State) (rd : BitVec 3) (addr : Val Word) : Prop :=
  t.bus = s.bus ++ [.read addr (addr.map (busAnswer s))] ∧ t.reg rd = addr.map (busAnswer s) ∧
    t.busAnswers = s.busAnswers.drop 1 ∧ t.platform = s.platform ∧
    t.pc = s.pc + 1#16 ∧ t.flags = s.flags ∧ t.w = s.w ∧ t.draws = s.draws ∧ PrefixCleared t ∧
    SameMemBut s t (s.regAddr rd)

/-- The state after a bus store of `data` at `addr`: one write transaction, PC at the next word, and nothing else changed. -/
def BusStorePost (s t : State) (addr data : Val Word) : Prop :=
  t.bus = s.bus ++ [.write addr data] ∧ t.busAnswers = s.busAnswers ∧ t.platform = s.platform ∧ t.pc = s.pc + 1#16 ∧
    t.flags = s.flags ∧ t.w = s.w ∧ t.draws = s.draws ∧ PrefixCleared t ∧ SameMem s t

/-- The ten comparison mnemonics and when each branches after `CMP` of `a` and `b`: the table of spec/48, "Conditional on
Comparison". -/
def comparisons (off : BitVec 8) (a b : Word) : List (Instr × Bool) :=
  [(.beq off, decide (a.toNat = b.toNat)), (.bne off, decide (a.toNat ≠ b.toNat)),
   (.bgtu off, decide (b.toNat < a.toNat)), (.bgeu off, decide (b.toNat ≤ a.toNat)),
   (.bleu off, decide (a.toNat ≤ b.toNat)), (.bltu off, decide (a.toNat < b.toNat)),
   (.bgts off, decide (b.toInt < a.toInt)), (.bges off, decide (b.toInt ≤ a.toInt)),
   (.bles off, decide (a.toInt ≤ b.toInt)), (.blts off, decide (a.toInt < b.toInt))]

/-- Where a branch goes: to `PC + 1 + off` if taken, else to `PC + 1` (R240 (c)). -/
def branchTarget (s : State) (off : Word) (taken : Bool) : Word := if taken then s.pc + 1#16 + off else s.pc + 1#16

/-- A branch goes where a free bit says, uses that one free value, and changes nothing else. -/
def FreeBranchPost (i : Instr) (s : State) (off : Word) : Prop :=
  ∃ t, exec i s = .next t ∧
    JumpPost { s with draws := s.draws + 1 } t (branchTarget s off (Config.freeBit s.draws))

/-- Whether instruction `i`, run from `s` to `t`, stores to address `a`: its Rd in the window of `t` (the new window for LDW
and XCHW, the same window for all others), or the data address of ST and STR. -/
def StoresTo (i : Instr) (s t : State) (a : Word) : Prop :=
  (∃ rd, i.dest = some rd ∧ a = t.regAddr rd) ∨
  (∃ rs ra off o, i = .st rs ra off ∧ s.imm5 off = .ok o ∧ a = s.pick (s.regPlus ra o)) ∨
  (∃ rs ra off o, i = .str rs ra off ∧ s.imm5 off = .ok o ∧ a = s.pick (s.pcPlusReg ra o))

/-! ## The invariant -/

/-- What holds in every state a run reaches: the memory is in its canonical form, W is a multiple of 8 (R42), and ext13 is
defined exactly while has_ext13 is 1 (R53, R55, R56). -/
def State.Inv (s : State) : Prop :=
  s.mem.wf = true ∧ s.w.toNat % 8 = 0 ∧ s.ext13.isKnown = s.hasExt13

/-! ## Runs -/

/-- The end of a run (R346): PC holds the address of a word 0xBFFF, `J` to itself, and has_ext13 = 0. The machine itself
does not stop. -/
def State.ended (s : State) : Bool := s.fetched == .known 0xBFFF#16 && !s.hasExt13

/-- A run of `n` steps from `s` meets no fault: it never reaches UNPREDICTABLE behaviour (R301). -/
def SafeFor (n : Nat) (s : State) : Prop := ∃ t, Host.Core.run Sys2Proof.core n s = .next t

end Machine
end Sys2Proof
end

