-- ==== Sys2Proof/Certificates/Slice0/Obligations.lean ====
section
/-! DEFINITION. The statements for the provers. Each docstring names the rules it formalises; where a clause is the model's own
choice, it names the log entry (notes/assumptions/<n>.md). -/

open Sys2Proof Sys2Proof.Machine

/-! ## Encoding -/

/-- R120, R121: the decoder reads back every instruction the encoder writes, whatever its operands. -/
def Obligations.DecodeEncodeRoundTrip : Prop :=
  ∀ i : Instr, i.wellFormed = true → decode (encode i) = .ok i

/-- R120, R121: every word the decoder accepts is the word of the instruction it gives, which is no alias; so no bit of a
listed word is dropped. -/
def Obligations.EncodeDecodeRoundTrip : Prop :=
  ∀ (w : Word) (i : Instr), decode w = .ok i → encode i = w ∧ i.wellFormed = true

/-- R133: one word for every name in a group. -/
def Obligations.AliasMnemonicsShareWords : Prop :=
  ∀ off : BitVec 8,
    (encode (.beq off) = encode (.bz1 off) ∧ encode (.bz off) = encode (.bz1 off)) ∧
    (encode (.bne off) = encode (.bz0 off) ∧ encode (.bnz off) = encode (.bz0 off)) ∧
    encode (.bs off) = encode (.bs1 off) ∧ encode (.bns off) = encode (.bs0 off) ∧
    (encode (.bc off) = encode (.bc1 off) ∧ encode (.bgeu off) = encode (.bc1 off)) ∧
    (encode (.bnc off) = encode (.bc0 off) ∧ encode (.bltu off) = encode (.bc0 off)) ∧
    encode (.bv off) = encode (.bv1 off) ∧ encode (.bnv off) = encode (.bv0 off)

/-- R124: an alias has the same encoding and the same operation as its canonical instruction. -/
def Obligations.AliasMeansCanonical : Prop :=
  ∀ (i : Instr) (s : State),
    encode i = encode i.canonical ∧ exec i s = exec i.canonical s ∧ i.canonical.wellFormed = true

/-- R120: the word of every instruction matches its own row of the opcode map. -/
def Obligations.EncodingMatchesItsRow : Prop :=
  ∀ i : Instr, i.row.matches (encode i) = true

/-- R120, R121: a word decodes exactly if it matches a row of the opcode map, and then the row it matches is that of the
instruction decoded. -/
def Obligations.DecodeFollowsOpcodeMap : Prop :=
  ∀ w : Word,
    ((∃ i, decode w = .ok i) ↔ ∃ r ∈ opcodeRows, r.matches w = true) ∧
    ∀ i, decode w = .ok i → ∀ r ∈ opcodeRows, (r.matches w = true ↔ r = i.row)

/-- R122: the words that are no instruction, by the ten conditions of its table. -/
def Obligations.UnlistedWordsRefused : Prop :=
  ∀ w : Word,
    (∃ why, decode w = .error why) ↔
      (w.toNat / 2048 = 0 ∧ w.toNat / 8 % 4 = 3 ∧ w.toNat / 256 % 8 ≠ 0) ∨
      (w.toNat / 2048 = 1 ∧ w.toNat / 8 % 4 = 3 ∧ w.toNat / 256 % 8 ≠ 0) ∨
      (0x3000 ≤ w.toNat ∧ w.toNat ≤ 0x3FFF) ∨
      (0x9000 ≤ w.toNat ∧ w.toNat ≤ 0x9FFF) ∨
      (w.toNat / 2048 = 20 ∧ w.toNat / 32 % 8 = 0 ∧ (w.toNat / 256 % 8 ≠ 0 ∨ w.toNat / 8 % 4 ≠ 0)) ∨
      (w.toNat / 2048 = 20 ∧ w.toNat / 32 % 8 = 1 ∧ w.toNat / 8 % 4 ≠ 0) ∨
      (w.toNat / 2048 = 20 ∧ w.toNat / 32 % 8 = 2 ∧ w.toNat / 256 % 8 ≠ 0) ∨
      (w.toNat / 2048 = 20 ∧ w.toNat / 32 % 8 = 5 ∧ w.toNat / 8 % 4 ≠ 0) ∨
      (0xB701 ≤ w.toNat ∧ w.toNat ≤ 0xB7FF) ∨
      0xE000 ≤ w.toNat

/-- R104 to R110: one word of every format, written out by hand, decodes to the instruction it stands for. -/
def Obligations.SampleWordsDecode : Prop :=
  decode 0b00010_000_010_00_100#16 = .ok (.add 0 2 4) ∧
  decode 0b00000_000_010_11_100#16 = .ok (.cmp 2 4) ∧
  decode 0b00001_101_010_10_111#16 = .ok (.xori 5 2 7) ∧
  decode 0b00101_000_010_11_000#16 = .ok (.srai 0 2 0) ∧
  decode 0b10000_011_00000101#16 = .ok (.movi 3 5) ∧
  decode 0b110_0001001000110#16 = .ok (.exti 0x0246) ∧
  decode 0b10100_110_011_11000#16 = .ok (.ldw 6 0b11000) ∧
  decode 0b01000_000_001_11111#16 = .ok (.ld 0 1 0b11111) ∧
  decode 0b01111_011_10000000#16 = .ok (.stxa 3 0x80) ∧
  decode 0b10100_001_111_00100#16 = .ok (.jst 1 4) ∧
  decode 0b1011_1111_11111111#16 = .ok (.j 0xFF) ∧
  decode 0b1011_0110_00000101#16 = .ok (.bgts 5) ∧
  decode 0b1011_0111_00000000#16 = .ok .nop

/-! ## The step -/

/-- R24, R35, R77, R92: a step at a defined word that decodes runs that instruction, if the words it accesses exist; the two
end-of-instruction updates are part of every meaning, so nothing else is added around `exec`. It is refused if a word it fetches or
reads does not exist, and if the instruction goes on to write one that does not (decision D7). The order of these tests, and that an
UNDEFINED load address is no word that does not exist, are log 17. At the default every word exists. -/
def Obligations.StepRunsDecodedInstruction : Prop :=
  ∀ (s : State) (w : Word) (i : Instr),
    s.mem.read s.pc = .known w → decode w = .ok i → i.wellFormed = true →
    (ReadsExist i s → WritesExist i s ∨ (∀ t, exec i s ≠ .next t) → step s = exec i s) ∧
    (¬ ReadsExist i s → step s = .refused .unpopulatedMemory) ∧
    (¬ WritesExist i s → ∀ t, exec i s = .next t → step s = .refused .unpopulatedMemory) ∧
    (s.platform.memPopulated = [{ first := 0x0000#16, last := 0xFFFF#16 }] → ReadsExist i s ∧ WritesExist i s)

/-- R77, R122, R303: executing a word that is no listed encoding is UNPREDICTABLE, which is a fault without a post-state
(decision D10, log 16). -/
def Obligations.StepFaultsOnUnlistedWord : Prop :=
  ∀ (s : State) (w : Word) (why : Unlisted),
    s.mem.read s.pc = .known w → decode w = .error why → s.populated (.known s.pc) = true →
    step s = .fault (.unlistedEncoding why)

/-- The model's choice (log 8): a step at an UNDEFINED word runs what some free word decodes to, and uses one free value. -/
def Obligations.StepOfUndefinedWord : Prop :=
  ∀ s : State, s.mem.read s.pc = .undefined → s.populated (.known s.pc) = true →
    (∀ i, decode (Config.freeWord s.draws) = .ok i → ReadsExist i { s with draws := s.draws + 1 } →
      WritesExist i { s with draws := s.draws + 1 } →
      step s = exec i { s with draws := s.draws + 1 }) ∧
    (∀ why, decode (Config.freeWord s.draws) = .error why → step s = .fault (.unlistedEncoding why))

/-- R87: a word stored by ST or STR just after the storing instruction is the word the very next step executes (decision D9,
log 20), where the words that step accesses exist (R77). -/
def Obligations.StoreReachesNextFetch : Prop :=
  ∀ (s : State) (rs ra : BitVec 3) (off : BitVec 5) (a o x : Word) (i : Instr),
    FieldLegal s off → operandField s off = .known o → s.reg ra = .known a → s.reg rs = .known x → decode x = .ok i →
    (a + o = s.pc + 1#16 →
      ∃ t, exec (.st rs ra off) s = .next t ∧ t.pc = s.pc + 1#16 ∧ (ReadsExist i t → WritesExist i t → step t = exec i t)) ∧
    (o + a = 0#16 →
      ∃ t, exec (.str rs ra off) s = .next t ∧ t.pc = s.pc + 1#16 ∧ (ReadsExist i t → WritesExist i t → step t = exec i t))

/-- R117, R231: at a jump to itself a step changes nothing; with has_ext13 = 1 the same word is UNPREDICTABLE. That such a word
is the end of a run is the spec's own convention (R346, decision D18). -/
def Obligations.EndOfRun : Prop :=
  ∀ s : State, s.Inv → s.mem.read s.pc = .known 0xBFFF#16 → s.populated (.known s.pc) = true →
    (s.hasExt13 = false → s.ended = true ∧ step s = .next s) ∧
    (s.hasExt13 = true → s.ended = false ∧ step s = .fault .longFormFieldBits)

/-! ## Reset -/

/-- R34, R43: the two reset values the source gives; R0 and R7 are then the words 0xFFF8 and 0xFFFF. -/
def Obligations.ResetPcAndWindow : Prop :=
  State.reset.pc = 0x0000#16 ∧ State.reset.w = 0xFFF8#16 ∧
  State.reset.regAddr 0 = 0xFFF8#16 ∧ State.reset.regAddr 7 = 0xFFFF#16

/-- R42, R59, R331, R347: the rest of the state at reset. It is what the parameters say, and a `RESET_W` that is no multiple of 8 is
refused (D3); at their defaults, which are the spec's own decisions D4, D5, D6, D7, D12 (logs 2, 3, 4, 13, 17), the flags, ext13 and
every memory word are UNDEFINED. -/
def Obligations.ResetOpenState : Prop :=
  State.boot {} = some State.reset ∧
  (State.reset.flags.z = .undefined ∧ State.reset.flags.s = .undefined ∧
    State.reset.flags.c = .undefined ∧ State.reset.flags.v = .undefined ∧
    State.reset.hasExt13 = false ∧ State.reset.ext13 = .undefined ∧
    (∀ a, State.reset.mem.read a = .undefined) ∧ (∀ r, State.reset.reg r = .undefined) ∧
    (∀ a, State.reset.populated a = true) ∧ State.reset.platform.immAl3 = none ∧ State.reset.bus = []) ∧
  ∀ p : Params,
    (State.boot p = none ↔ p.resetW.toNat % 8 ≠ 0) ∧
    ∀ s, State.boot p = some s →
      s.pc = p.resetPc ∧ s.w = p.resetW ∧ s.flags = p.resetFlags ∧ s.hasExt13 = p.resetHasExt13 ∧ s.ext13 = .undefined ∧
      s.platform = p.toPlatform ∧ s.bus = [] ∧ s.busAnswers = p.busAnswers ∧
      (∀ a v, p.memInit.lookup a = some v → s.mem.read a = .known v) ∧
      (∀ a, p.memInit.lookup a = none → s.mem.read a = .undefined)

/-- R42, R43, R56: the invariant holds at reset, whatever the parameters, if `RESET_HAS_EXT13` is 0 (decision D5). -/
def Obligations.ResetInv : Prop :=
  State.reset.Inv ∧ ∀ (p : Params) (s : State), p.resetHasExt13 = false → State.boot p = some s → s.Inv

/-! ## Invariants and rules of the whole machine -/

/-- R42, R55: every step keeps the invariant: memory in its canonical form, W a multiple of 8, ext13 defined exactly while
has_ext13 = 1; and every step keeps the parameters (R347). -/
def Obligations.StepKeepsInv : Prop :=
  ∀ s t : State, s.Inv → step s = .next t → t.Inv ∧ t.platform = s.platform

/-- R40: only ADJW, LDW, STW and XCHW change W. -/
def Obligations.OnlyWindowInstructionsChangeW : Prop :=
  ∀ (i : Instr) (s t : State), i.movesWindow = false → exec i s = .next t → t.w = s.w

/-- R50: who writes the flags. Outside the ALU nothing does, and after a logic, shift or rotate instruction C and V are
UNDEFINED. -/
def Obligations.FlagWriters : Prop :=
  ∀ (i : Instr) (s t : State), exec i s = .next t →
    (i.setsFlags = false → t.flags = s.flags) ∧
    (i.isLogicOrShift = true → t.flags.c = .undefined ∧ t.flags.v = .undefined)

/-- R55: after every instruction but EXTI the prefix is cleared, and after EXTI it holds what EXTI wrote. -/
def Obligations.OnlyExtiLeavesPrefix : Prop :=
  ∀ (i : Instr) (s t : State), exec i s = .next t →
    (i.isExti = false → t.ext13 = .undefined ∧ t.hasExt13 = false) ∧
    ∀ imm, i = .exti imm → t.ext13 = .known imm ∧ t.hasExt13 = true

/-- R32, R33: an instruction that is no jump or branch ends at the next word, modulo 65,536. -/
def Obligations.DefaultAdvance : Prop :=
  ∀ (i : Instr) (s t : State), i.assignsPc = false → exec i s = .next t → t.pc.toNat = (s.pc.toNat + 1) % 65536

/-- R83: one read transaction for LDX and LDXA, one write transaction for STX and STXA, at the address and with the data of the
operation, after all earlier ones; none for any other instruction. -/
def Obligations.BusTransactions : Prop :=
  ∀ (i : Instr) (s t : State), exec i s = .next t →
    (i.usesBus = false → t.bus = s.bus) ∧
    (∀ rd ra off, i = .ldx rd ra off →
      t.bus = s.bus ++ [.read (Val.map2 (· + ·) (s.reg ra) (operandField s off)) (t.reg rd)]) ∧
    (∀ rd off, i = .ldxa rd off → t.bus = s.bus ++ [.read (operandField s off) (t.reg rd)]) ∧
    (∀ rs ra off, i = .stx rs ra off →
      t.bus = s.bus ++ [.write (Val.map2 (· + ·) (s.reg ra) (operandField s off)) (s.reg rs)]) ∧
    (∀ rs off, i = .stxa rs off → t.bus = s.bus ++ [.write (operandField s off) (s.reg rs)])

/-- R92: the one word an instruction may write is its Rd (in the new window for LDW and XCHW) or the data word of ST or STR;
every other word of memory, so every other register, reads as before. An UNDEFINED data address is a free word (log 11). Nothing
the instruction does depends on a word that is not among its reads. -/
def Obligations.MemoryFrame : Prop :=
  ∀ (i : Instr) (s t : State), exec i s = .next t →
    (∀ b, (∀ a, StoresTo i s t a → b ≠ a) → t.mem.read b = s.mem.read b) ∧
    (∀ b, .known b ∉ s.writes i → t.mem.read b = s.mem.read b) ∧
    ∀ m : Memory, (∀ b, .known b ∈ s.reads i → m.read b = s.mem.read b) →
      ∃ u, exec i { s with mem := m } = .next u ∧ SameCpu t u ∧
        ∀ b, .known b ∈ s.writes i → u.mem.read b = t.mem.read b

/-- R303: an instruction goes on, or it stops for one of four reasons under that reason's own condition; it never refuses.
The model's choices: UNPREDICTABLE is a fault (log 16), and where an UNDEFINED value steers the machine a free value stands for it
(log 6). -/
def Obligations.ExecOutcomes : Prop :=
  ∀ (i : Instr) (s : State),
    (∃ t, exec i s = .next t) ∨
    (exec i s = .fault .longFormFieldBits ∧ s.hasExt13 = true ∧ ∃ n, i.wideField = some n ∧ 8 ≤ n) ∨
    (exec i s = .fault .shiftAmount ∧ ∃ a, testedAmount s i = some a ∧ 15 < (s.pick a).toNat) ∨
    (exec i s = .fault .windowAlignment ∧ ∃ v, givenWindow s i = some v ∧ (s.pick v).toNat % 8 ≠ 0) ∨
    (exec i s = .fault .immAl3Unset ∧ i.alField = some 3#3 ∧ s.hasExt13 = false ∧ s.platform.immAl3 = none)

/-- R117: in a long form, a 5-bit or 8-bit field with a bit above bit 2 set is UNPREDICTABLE, whatever else holds (a fault: log 16; the
reason reported first: log 30). -/
def Obligations.LongFormFieldBitsFault : Prop :=
  ∀ (i : Instr) (s : State) (n : Nat),
    i.wideField = some n → s.hasExt13 = true → 8 ≤ n → exec i s = .fault .longFormFieldBits

/-! ## Arithmetic -/

/-- R141, R143, R151: ADD and ADC. -/
def Obligations.AddAdcResult : Prop :=
  ∀ (s : State) (rd ra rb : BitVec 3),
    (∃ t, exec (.add rd ra rb) s = .next t ∧ AluPost s t rd (sumOf (s.reg ra) (s.reg rb) (.known false))) ∧
    (∃ t, exec (.adc rd ra rb) s = .next t ∧ AluPost s t rd (sumOf (s.reg ra) (s.reg rb) s.flags.c))

/-- R145, R147, R151: SUB and SBC. -/
def Obligations.SubSbcResult : Prop :=
  ∀ (s : State) (rd ra rb : BitVec 3),
    (∃ t, exec (.sub rd ra rb) s = .next t ∧ AluPost s t rd (differenceOf (s.reg ra) (s.reg rb) (.known true))) ∧
    (∃ t, exec (.sbc rd ra rb) s = .next t ∧ AluPost s t rd (differenceOf (s.reg ra) (s.reg rb) s.flags.c))

/-- R112, R142, R144, R146, R148: ADDI, ADCI, SUBI and SBCI, in both forms. R303, D12: UNPREDICTABLE (a fault: log 16) where the
operand is entry 3 of the short table and `IMM_AL_3` was not supplied (log 13). -/
def Obligations.ImmediateArithmeticResult : Prop :=
  ∀ (s : State) (rd ra imm : BitVec 3),
    (∀ v, operandAl s imm = some v →
      (∃ t, exec (.addi rd ra imm) s = .next t ∧ AluPost s t rd (sumOf (s.reg ra) v (.known false))) ∧
      (∃ t, exec (.adci rd ra imm) s = .next t ∧ AluPost s t rd (sumOf (s.reg ra) v s.flags.c)) ∧
      (∃ t, exec (.subi rd ra imm) s = .next t ∧ AluPost s t rd (differenceOf (s.reg ra) v (.known true))) ∧
      (∃ t, exec (.sbci rd ra imm) s = .next t ∧ AluPost s t rd (differenceOf (s.reg ra) v s.flags.c))) ∧
    (operandAl s imm = none →
      ∀ i ∈ [Instr.addi rd ra imm, .adci rd ra imm, .subi rd ra imm, .sbci rd ra imm], exec i s = .fault .immAl3Unset)

/-- R149, R150: CMP and CMPI write the flags of the difference and no register. R303, D12: CMPI is UNPREDICTABLE (a fault: log 16)
where its operand is entry 3 of the short table and `IMM_AL_3` was not supplied (log 13). -/
def Obligations.CompareResult : Prop :=
  ∀ (s : State) (ra rb imm : BitVec 3),
    (∃ t, exec (.cmp ra rb) s = .next t ∧ ComparePost s t (differenceOf (s.reg ra) (s.reg rb) (.known true))) ∧
    (∀ v, operandAl s imm = some v →
      ∃ t, exec (.cmpi ra imm) s = .next t ∧ ComparePost s t (differenceOf (s.reg ra) v (.known true))) ∧
    (operandAl s imm = none → exec (.cmpi ra imm) s = .fault .immAl3Unset)

/-! ## Logic -/

/-- R160, R161, R163, R165: AND, OR and XOR, bit by bit. -/
def Obligations.LogicRegisterResult : Prop :=
  ∀ (s : State) (rd ra rb : BitVec 3),
    (∃ t, exec (.and rd ra rb) s = .next t ∧ BitwisePost s t rd and (s.reg ra) (s.reg rb)) ∧
    (∃ t, exec (.or rd ra rb) s = .next t ∧ BitwisePost s t rd or (s.reg ra) (s.reg rb)) ∧
    (∃ t, exec (.xor rd ra rb) s = .next t ∧ BitwisePost s t rd xor (s.reg ra) (s.reg rb))

/-- R112, R160, R162, R164, R166: ANDI, ORI and XORI, bit by bit, in both forms. R303, D12: UNPREDICTABLE (a fault: log 16) where
the operand is entry 3 of the short table and `IMM_AL_3` was not supplied (log 13). -/
def Obligations.LogicImmediateResult : Prop :=
  ∀ (s : State) (rd ra imm : BitVec 3),
    (∀ v, operandAl s imm = some v →
      (∃ t, exec (.andi rd ra imm) s = .next t ∧ BitwisePost s t rd and (s.reg ra) v) ∧
      (∃ t, exec (.ori rd ra imm) s = .next t ∧ BitwisePost s t rd or (s.reg ra) v) ∧
      (∃ t, exec (.xori rd ra imm) s = .next t ∧ BitwisePost s t rd xor (s.reg ra) v)) ∧
    (operandAl s imm = none →
      ∀ i ∈ [Instr.andi rd ra imm, .ori rd ra imm, .xori rd ra imm], exec i s = .fault .immAl3Unset)

/-! ## Shift and rotate -/

/-- R170, R171, R173, R175, R177: SLL, SRL, SRA and ROL by 0 to 15, of a word that may be UNDEFINED. -/
def Obligations.ShiftRegisterResult : Prop :=
  ∀ (s : State) (rd ra rb : BitVec 3) (n : Word), s.reg rb = .known n → n.toNat ≤ 15 →
    (∃ t, exec (.sll rd ra rb) s = .next t ∧
      AluPost s t rd (wordResultOf ((s.reg ra).map fun x => shiftedLeft x n.toNat))) ∧
    (∃ t, exec (.srl rd ra rb) s = .next t ∧
      AluPost s t rd (wordResultOf ((s.reg ra).map fun x => shiftedRight x n.toNat))) ∧
    (∃ t, exec (.sra rd ra rb) s = .next t ∧
      AluPost s t rd (wordResultOf ((s.reg ra).map fun x => shiftedRightSigned x n.toNat))) ∧
    (∃ t, exec (.rol rd ra rb) s = .next t ∧
      AluPost s t rd (wordResultOf ((s.reg ra).map fun x => rotatedLeft x n.toNat)))

/-- R113, R170, R172, R174, R176, R178: SLLI, SRLI (zero fill, log 19), SRAI and ROLI by 0 to 15, in both forms. -/
def Obligations.ShiftImmediateResult : Prop :=
  ∀ (s : State) (rd ra imm : BitVec 3) (n : Word), operandSr s imm = .known n → n.toNat ≤ 15 →
    (∃ t, exec (.slli rd ra imm) s = .next t ∧
      AluPost s t rd (wordResultOf ((s.reg ra).map fun x => shiftedLeft x n.toNat))) ∧
    (∃ t, exec (.srli rd ra imm) s = .next t ∧
      AluPost s t rd (wordResultOf ((s.reg ra).map fun x => shiftedRight x n.toNat))) ∧
    (∃ t, exec (.srai rd ra imm) s = .next t ∧
      AluPost s t rd (wordResultOf ((s.reg ra).map fun x => shiftedRightSigned x n.toNat))) ∧
    (∃ t, exec (.roli rd ra imm) s = .next t ∧
      AluPost s t rd (wordResultOf ((s.reg ra).map fun x => rotatedLeft x n.toNat)))

/-- R180: an amount above 15, compared as a whole unsigned word, is UNPREDICTABLE (a fault: log 16); a short immediate form
never is, since its amount is 1 to 8. -/
def Obligations.ShiftAmountAboveFifteen : Prop :=
  ∀ (s : State) (rd ra : BitVec 3),
    (∀ (rb : BitVec 3) (n : Word), s.reg rb = .known n → 15 < n.toNat →
      exec (.sll rd ra rb) s = .fault .shiftAmount ∧ exec (.srl rd ra rb) s = .fault .shiftAmount ∧
      exec (.sra rd ra rb) s = .fault .shiftAmount ∧ exec (.rol rd ra rb) s = .fault .shiftAmount) ∧
    (∀ (imm : BitVec 3) (h : BitVec 13), s.hasExt13 = true → s.ext13 = .known h → 2 ≤ h.toNat →
      exec (.slli rd ra imm) s = .fault .shiftAmount ∧ exec (.srli rd ra imm) s = .fault .shiftAmount ∧
      exec (.srai rd ra imm) s = .fault .shiftAmount ∧ exec (.roli rd ra imm) s = .fault .shiftAmount) ∧
    (∀ imm : BitVec 3, s.hasExt13 = false → ∃ n, operandSr s imm = .known n ∧ 1 ≤ n.toNat ∧ n.toNat ≤ 8)

/-- The model's choice (log 10): an UNDEFINED amount is tested as a free word; where that is at most 15, the word written and
all four flags are UNDEFINED. -/
def Obligations.UndefinedShiftAmount : Prop :=
  ∀ (s : State) (rd ra rb : BitVec 3), s.reg rb = .undefined →
    ∀ i ∈ [Instr.sll rd ra rb, .srl rd ra rb, .sra rd ra rb, .rol rd ra rb],
      (15 < (Config.freeWord s.draws).toNat ∧ exec i s = .fault .shiftAmount) ∨
      ((Config.freeWord s.draws).toNat ≤ 15 ∧ ∃ t, exec i s = .next t ∧
        AluPost { s with draws := s.draws + 1 } t rd AluResult.undefined)

/-! ## Register transfer -/

/-- R114, R115, R192, R193: MOVI loads the constant, MOVR the address `PC + 1 + off`; no flag changes. -/
def Obligations.MoveResult : Prop :=
  ∀ (s : State) (rd : BitVec 3) (f : BitVec 8), FieldLegal s f →
    (∃ t, exec (.movi rd f) s = .next t ∧ RegPost s t rd (operandField s f) (s.pc + 1#16)) ∧
    (∃ t, exec (.movr rd f) s = .next t ∧
      RegPost s t rd ((operandField s f).map fun o => s.pc + 1#16 + o) (s.pc + 1#16))

/-- R118, R195: EXTI copies its 13 bits, after another EXTI too, and changes nothing else. -/
def Obligations.ExtiResult : Prop :=
  ∀ (s : State) (imm : BitVec 13), ∃ t, exec (.exti imm) s = .next t ∧
    t.ext13 = .known imm ∧ t.hasExt13 = true ∧ t.pc = s.pc + 1#16 ∧ t.flags = s.flags ∧
    SameWindowAndBus s t ∧ SameMem s t

/-- R196: NOP is the one word 0xB700, the other 255 words of its row are no instruction, and it only advances PC (and clears the
prefix). -/
def Obligations.NopResult : Prop :=
  encode .nop = 0xB700#16 ∧ decode 0xB700#16 = .ok .nop ∧
  (∀ w : Word, 0xB701 ≤ w.toNat → w.toNat ≤ 0xB7FF → decode w = .error .nopOffset) ∧
  ∀ s : State, ∃ t, exec .nop s = .next t ∧ JumpPost s t (s.pc + 1#16)

/-- R112 to R116: the pair of `longForm` encodes any 16-bit value: the EXTI word is `0xC000 or v[15:3]`, and the instruction after
it computes `v` from a field whose low three bits are `v[2:0]` and whose other bits are 0. R134: the assembler's short form of a value
is a field whose short form computes it, and there is none only where no short form does. -/
def Obligations.LongFormBuildsConstant : Prop :=
  ∀ (v : Word) (s : State),
    (encode (longForm v).1 = 0xC000#16 ||| (v >>> 3) ∧ (longForm v).2.toNat = v.toNat % 8 ∧
      ∃ t, exec (longForm v).1 s = .next t ∧ t.hasExt13 = true ∧
        operandAl t (longForm v).2 = some (.known v) ∧ operandSr t (longForm v).2 = .known v ∧
        FieldLegal t ((longForm v).2.setWidth 5) ∧ operandField t ((longForm v).2.setWidth 5) = .known v ∧
        FieldLegal t ((longForm v).2.setWidth 8) ∧ operandField t ((longForm v).2.setWidth 8) = .known v) ∧
    (s.hasExt13 = false →
      ((∀ x, shortAl s.platform.immAl3 v = some x → operandAl s x = some (.known v)) ∧
        (shortAl s.platform.immAl3 v = none → ∀ x, operandAl s x ≠ some (.known v))) ∧
      ((∀ x, shortSr v = some x → operandSr s x = .known v) ∧ (shortSr v = none → ∀ x, operandSr s x ≠ .known v)) ∧
      ((∀ x, short5 v = some x → operandField s x = .known v) ∧
        (short5 v = none → ∀ x : BitVec 5, operandField s x ≠ .known v)) ∧
      ((∀ x, short8 v = some x → operandField s x = .known v) ∧
        (short8 v = none → ∀ x : BitVec 8, operandField s x ≠ .known v)))

/-! ## The window -/

/-- R201, R202: ADJW and LDW add a multiple of 8 to W; LDW leaves the old W in Rd of the new window. -/
def Obligations.AdjustWindowResult : Prop :=
  ∀ (s : State) (rd : BitVec 3) (imm : BitVec 5) (v : Word),
    FieldLegal s imm → operandField s imm = .known v → v.toNat % 8 = 0 →
    (∃ t, exec (.adjw imm) s = .next t ∧ WindowPost s t (s.w + v)) ∧
    (∃ t, exec (.ldw rd imm) s = .next t ∧ WindowSavePost s t (s.w + v) rd)

/-- R203, R204: STW and XCHW load W from a register of the old window; XCHW leaves the old W in Rd of the new window. -/
def Obligations.LoadWindowResult : Prop :=
  ∀ (s : State) (rd rb : BitVec 3) (v : Word), s.reg rb = .known v → v.toNat % 8 = 0 →
    (∃ t, exec (.stw rb) s = .next t ∧ WindowPost s t v) ∧
    (∃ t, exec (.xchw rd rb) s = .next t ∧ WindowSavePost s t v rd)

/-- R200 (c): a value given to W that is no multiple of 8 is UNPREDICTABLE (a fault: log 16). -/
def Obligations.WindowAlignmentFaults : Prop :=
  ∀ (s : State) (v : Word), v.toNat % 8 ≠ 0 →
    (∀ (rd : BitVec 3) (imm : BitVec 5), FieldLegal s imm → operandField s imm = .known v →
      exec (.adjw imm) s = .fault .windowAlignment ∧ exec (.ldw rd imm) s = .fault .windowAlignment) ∧
    (∀ rd rb : BitVec 3, s.reg rb = .known v →
      exec (.stw rb) s = .fault .windowAlignment ∧ exec (.xchw rd rb) s = .fault .windowAlignment)

/-- The model's choice (log 6): an UNDEFINED word given to W is a free word, which must be a multiple of 8 as any other. -/
def Obligations.UndefinedWindowValue : Prop :=
  ∀ (s : State) (rd rb : BitVec 3), s.reg rb = .undefined →
    ((Config.freeWord s.draws).toNat % 8 ≠ 0 ∧
      exec (.stw rb) s = .fault .windowAlignment ∧ exec (.xchw rd rb) s = .fault .windowAlignment) ∨
    ((Config.freeWord s.draws).toNat % 8 = 0 ∧
      (∃ t, exec (.stw rb) s = .next t ∧ WindowPost { s with draws := s.draws + 1 } t (Config.freeWord s.draws)) ∧
      (∃ t, exec (.xchw rd rb) s = .next t ∧
        WindowSavePost { s with draws := s.draws + 1 } t (Config.freeWord s.draws) rd))

/-- R202, R205: a prologue `LDW Rd, -8` and an epilogue `STW Rd` bring back the window, every register and the flags. -/
def Obligations.WindowSaveRestore : Prop :=
  ∀ (s : State) (rd : BitVec 3), s.w.toNat % 8 = 0 → s.hasExt13 = false →
    ∃ u, execAll [.ldw rd 0b11000#5, .stw rd] s = .next u ∧
      u.w = s.w ∧ (∀ r, u.reg r = s.reg r) ∧ u.flags = s.flags ∧ u.pc = s.pc + 2#16 ∧
      SameMemBut s u (s.w - 8#16 + rd.setWidth 16)

/-! ## Memory and the bus -/

/-- R211, R212: LD and LDR. An UNDEFINED address gives an UNDEFINED word (R210 (h)). -/
def Obligations.LoadResult : Prop :=
  ∀ (s : State) (rd ra : BitVec 3) (off : BitVec 5), FieldLegal s off →
    (∃ t, exec (.ld rd ra off) s = .next t ∧
      RegPost s t rd ((s.reg ra).bind fun a => (operandField s off).bind fun o => s.mem.read (a + o)) (s.pc + 1#16)) ∧
    (∃ t, exec (.ldr rd ra off) s = .next t ∧
      RegPost s t rd
        ((s.reg ra).bind fun a => (operandField s off).bind fun o => s.mem.read (s.pc + 1#16 + o + a)) (s.pc + 1#16))

/-- R213, R214: ST and STR store Rs, defined or not, at the address. -/
def Obligations.StoreResult : Prop :=
  ∀ (s : State) (rs ra : BitVec 3) (off : BitVec 5) (a o : Word),
    FieldLegal s off → operandField s off = .known o → s.reg ra = .known a →
    (∃ t, exec (.st rs ra off) s = .next t ∧ StorePost s t (a + o) (s.reg rs)) ∧
    (∃ t, exec (.str rs ra off) s = .next t ∧ StorePost s t (s.pc + 1#16 + o + a) (s.reg rs))

/-- R39 (a): a store to `W + r` changes register r, and no other register. -/
def Obligations.StoreIntoWindow : Prop :=
  ∀ (s : State) (rs ra r : BitVec 3) (off : BitVec 5) (a o : Word),
    FieldLegal s off → operandField s off = .known o → s.reg ra = .known a →
    (a + o = s.w + r.setWidth 16 → ∃ t, exec (.st rs ra off) s = .next t ∧ t.reg r = s.reg rs ∧
      ∀ q, q ≠ r → t.reg q = s.reg q) ∧
    (s.pc + 1#16 + o + a = s.w + r.setWidth 16 → ∃ t, exec (.str rs ra off) s = .next t ∧ t.reg r = s.reg rs ∧
      ∀ q, q ≠ r → t.reg q = s.reg q)

/-- R221, R222: LDX and LDXA: one read transaction, its answer in Rd. -/
def Obligations.BusLoadResult : Prop :=
  ∀ (s : State) (rd ra : BitVec 3) (f : BitVec 5) (g : BitVec 8),
    (FieldLegal s f → ∃ t, exec (.ldx rd ra f) s = .next t ∧
      BusLoadPost s t rd (Val.map2 (· + ·) (s.reg ra) (operandField s f))) ∧
    (FieldLegal s g → ∃ t, exec (.ldxa rd g) s = .next t ∧ BusLoadPost s t rd (operandField s g))

/-- R223, R224: STX and STXA: one write transaction of Rs, and no register or memory word changes. -/
def Obligations.BusStoreResult : Prop :=
  ∀ (s : State) (rs ra : BitVec 3) (f : BitVec 5) (g : BitVec 8),
    (FieldLegal s f → ∃ t, exec (.stx rs ra f) s = .next t ∧
      BusStorePost s t (Val.map2 (· + ·) (s.reg ra) (operandField s f)) (s.reg rs)) ∧
    (FieldLegal s g → ∃ t, exec (.stxa rs g) s = .next t ∧ BusStorePost s t (operandField s g) (s.reg rs))

/-! ## Unconditional control -/

/-- R231, R232: J and JAL go to `PC + 1 + off`; JAL leaves `PC + 1` in Rd. -/
def Obligations.JumpResult : Prop :=
  ∀ (s : State) (rd : BitVec 3) (off : BitVec 8) (o : Word), FieldLegal s off → operandField s off = .known o →
    (∃ t, exec (.j off) s = .next t ∧ JumpPost s t (s.pc + 1#16 + o)) ∧
    (∃ t, exec (.jal rd off) s = .next t ∧ RegPost s t rd (.known (s.pc + 1#16)) (s.pc + 1#16 + o))

/-- R233, R234: JR goes to `x[Rs] + off`, an absolute address without PC, as the spec reads two passages of its source that
disagree (spec/90_conflicts.md C1, C2; log 25); JRAL goes to the old `x[Rb]`, also where Rd = Rb, and leaves
`PC + 1` in Rd. -/
def Obligations.JumpRegisterResult : Prop :=
  ∀ (s : State) (rd r : BitVec 3) (off : BitVec 5) (a : Word), s.reg r = .known a →
    (∀ o, FieldLegal s off → operandField s off = .known o →
      ∃ t, exec (.jr r off) s = .next t ∧ JumpPost s t (a + o)) ∧
    (∃ t, exec (.jral rd r) s = .next t ∧ RegPost s t rd (.known (s.pc + 1#16)) a)

/-- R235, R236: JST and JVT add a table word to the table's address. -/
def Obligations.TableJumpResult : Prop :=
  ∀ (s : State) (rs : BitVec 3) (off : BitVec 5) (x o d : Word),
    FieldLegal s off → operandField s off = .known o → s.reg rs = .known x →
    (s.mem.read (s.pc + 1#16 + o + x) = .known d →
      ∃ t, exec (.jst rs off) s = .next t ∧ JumpPost s t (s.pc + 1#16 + o + d)) ∧
    (s.mem.read (x + o) = .known d → ∃ t, exec (.jvt rs off) s = .next t ∧ JumpPost s t (x + d))

/-- The model's choice (logs 6, 11): a jump whose target is UNDEFINED, by its register or by its table word, goes to the address that
a free word names, and a store through an address that is UNDEFINED by its register writes the one word that a free word names. -/
def Obligations.UndefinedAddress : Prop :=
  ∀ (s : State) (rd r : BitVec 3) (off : BitVec 5), FieldLegal s off →
    (s.reg r = .undefined →
      (∀ i ∈ [Instr.jr r off, .jst r off, .jvt r off],
        ∃ t, exec i s = .next t ∧ JumpPost { s with draws := s.draws + 1 } t (Config.freeWord s.draws)) ∧
      (∃ t, exec (.jral rd r) s = .next t ∧
        RegPost { s with draws := s.draws + 1 } t rd (.known (s.pc + 1#16)) (Config.freeWord s.draws)) ∧
      (∀ i ∈ [Instr.st rd r off, .str rd r off],
        ∃ t, exec i s = .next t ∧
          StorePost { s with draws := s.draws + 1 } t (Config.freeWord s.draws) (s.reg rd))) ∧
    (∀ x o : Word, s.reg r = .known x → operandField s off = .known o →
      (s.mem.read (s.pc + 1#16 + o + x) = .undefined →
        ∃ t, exec (.jst r off) s = .next t ∧
          JumpPost { s with draws := s.draws + 1 } t (Config.freeWord s.draws)) ∧
      (s.mem.read (x + o) = .undefined →
        ∃ t, exec (.jvt r off) s = .next t ∧
          JumpPost { s with draws := s.draws + 1 } t (Config.freeWord s.draws)))

/-! ## Conditional control -/

/-- R241, R245, R249 to R266: the twenty mnemonics that test one flag, taken or not as that flag says, whatever the others
hold. -/
def Obligations.FlagBranchResult : Prop :=
  ∀ (s : State) (off : BitVec 8) (o : Word) (x : Bool), FieldLegal s off → operandField s off = .known o →
    (s.flags.z = .known x →
      (∀ i ∈ [Instr.bz1 off, .beq off, .bz off], ∃ t, exec i s = .next t ∧ JumpPost s t (branchTarget s o x)) ∧
      (∀ i ∈ [Instr.bz0 off, .bne off, .bnz off], ∃ t, exec i s = .next t ∧ JumpPost s t (branchTarget s o (!x)))) ∧
    (s.flags.s = .known x →
      (∀ i ∈ [Instr.bs1 off, .bs off], ∃ t, exec i s = .next t ∧ JumpPost s t (branchTarget s o x)) ∧
      (∀ i ∈ [Instr.bs0 off, .bns off], ∃ t, exec i s = .next t ∧ JumpPost s t (branchTarget s o (!x)))) ∧
    (s.flags.c = .known x →
      (∀ i ∈ [Instr.bc1 off, .bc off, .bgeu off], ∃ t, exec i s = .next t ∧ JumpPost s t (branchTarget s o x)) ∧
      (∀ i ∈ [Instr.bc0 off, .bnc off, .bltu off], ∃ t, exec i s = .next t ∧ JumpPost s t (branchTarget s o (!x)))) ∧
    (s.flags.v = .known x →
      (∀ i ∈ [Instr.bv1 off, .bv off], ∃ t, exec i s = .next t ∧ JumpPost s t (branchTarget s o x)) ∧
      (∀ i ∈ [Instr.bv0 off, .bnv off], ∃ t, exec i s = .next t ∧ JumpPost s t (branchTarget s o (!x))))

/-- R242, R243, R244, R246, R247, R248: the six mnemonics that test several flags. -/
def Obligations.OrderBranchResult : Prop :=
  ∀ (s : State) (off : BitVec 8) (o : Word) (z n c v : Bool), FieldLegal s off → operandField s off = .known o →
    (s.flags.c = .known c → s.flags.z = .known z →
      (∃ t, exec (.bgtu off) s = .next t ∧ JumpPost s t (branchTarget s o (c && !z))) ∧
      (∃ t, exec (.bleu off) s = .next t ∧ JumpPost s t (branchTarget s o (!c || z)))) ∧
    (s.flags.s = .known n → s.flags.v = .known v →
      (∃ t, exec (.bges off) s = .next t ∧ JumpPost s t (branchTarget s o (n == v))) ∧
      (∃ t, exec (.blts off) s = .next t ∧ JumpPost s t (branchTarget s o (n != v)))) ∧
    (s.flags.s = .known n → s.flags.v = .known v → s.flags.z = .known z →
      (∃ t, exec (.bgts off) s = .next t ∧ JumpPost s t (branchTarget s o (n == v && !z))) ∧
      (∃ t, exec (.bles off) s = .next t ∧ JumpPost s t (branchTarget s o (n != v || z))))

/-- R240 (h) with the model's choice (log 9): a branch that reads an UNDEFINED flag goes where a free bit says, whichever of the
flags it reads that is. -/
def Obligations.BranchOnUndefinedFlag : Prop :=
  ∀ (s : State) (off : BitVec 8) (o : Word), FieldLegal s off → operandField s off = .known o →
    (s.flags.z = .undefined →
      ∀ i ∈ [Instr.bz1 off, .bz0 off, .beq off, .bne off, .bz off, .bnz off, .bgtu off, .bleu off, .bgts off, .bles off],
        FreeBranchPost i s o) ∧
    (s.flags.s = .undefined →
      ∀ i ∈ [Instr.bs1 off, .bs0 off, .bs off, .bns off, .bges off, .blts off, .bgts off, .bles off], FreeBranchPost i s o) ∧
    (s.flags.c = .undefined →
      ∀ i ∈ [Instr.bc1 off, .bc0 off, .bc off, .bnc off, .bgeu off, .bltu off, .bgtu off, .bleu off],
        FreeBranchPost i s o) ∧
    (s.flags.v = .undefined →
      ∀ i ∈ [Instr.bv1 off, .bv0 off, .bv off, .bnv off, .bges off, .blts off, .bgts off, .bles off], FreeBranchPost i s o)

/-! ## What instructions do together -/

/-- R149, R241 to R250, R267: after `CMP Ra, Rb` each of the ten comparison mnemonics branches exactly if the comparison it is
named for holds of the two registers. -/
def Obligations.CompareThenBranch : Prop :=
  ∀ (s : State) (ra rb : BitVec 3) (a b : Word), s.reg ra = .known a → s.reg rb = .known b →
    ∃ t, exec (.cmp ra rb) s = .next t ∧
      ∀ (off : BitVec 8), ∀ p ∈ comparisons off a b,
        ∃ u, exec p.1 t = .next u ∧ JumpPost t u (branchTarget t (BitVec.ofInt 16 off.toInt) p.2)

/-- R143, R147, R151: ADD then ADC adds, and SUB then SBC subtracts, two 32-bit numbers held in register pairs, low word first;
C then says whether the 32-bit sum carried, or the 32-bit difference did not borrow. -/
def Obligations.MultiwordArithmetic : Prop :=
  ∀ (s : State) (dl dh al ah bl bh : BitVec 3) (a0 a1 b0 b1 : Word),
    dl ≠ dh → dl ≠ ah → dl ≠ bh →
    s.reg al = .known a0 → s.reg ah = .known a1 → s.reg bl = .known b0 → s.reg bh = .known b1 →
    (∃ (u : State) (lo hi : Word), execAll [.add dl al bl, .adc dh ah bh] s = .next u ∧
      u.reg dl = .known lo ∧ u.reg dh = .known hi ∧
      hi.toNat * 65536 + lo.toNat
        = ((a1.toNat * 65536 + a0.toNat) + (b1.toNat * 65536 + b0.toNat)) % 4294967296 ∧
      u.flags.c = .known (decide (4294967296 ≤ (a1.toNat * 65536 + a0.toNat) + (b1.toNat * 65536 + b0.toNat)))) ∧
    (∃ (u : State) (lo hi : Word), execAll [.sub dl al bl, .sbc dh ah bh] s = .next u ∧
      u.reg dl = .known lo ∧ u.reg dh = .known hi ∧
      hi.toNat * 65536 + lo.toNat
        = ((a1.toNat * 65536 + a0.toNat) + 4294967296 - (b1.toNat * 65536 + b0.toNat)) % 4294967296 ∧
      u.flags.c = .known (decide (b1.toNat * 65536 + b0.toNat ≤ a1.toNat * 65536 + a0.toNat)))

/-- R194: the three XORs of XCHG exchange two different registers; Z and S describe the word that ends in Ra. -/
def Obligations.XchgExpansionSwaps : Prop :=
  ∀ (s : State) (ra rb : BitVec 3) (a b : Word), ra ≠ rb → s.reg ra = .known a → s.reg rb = .known b →
    ∃ l u, Pseudo.expand (.xchg ra rb) = some l ∧ execAll l s = .next u ∧
      u.reg ra = .known b ∧ u.reg rb = .known a ∧ (∀ r, r ≠ ra → r ≠ rb → u.reg r = s.reg r) ∧
      u.flags = (wordResultOf (.known b)).flags ∧ u.pc = s.pc + 3#16

/-- R179: the expansion of RORI by 0 to 15 rotates right: bit i of Ra becomes bit `(i - n) mod 16` of Rd. -/
def Obligations.RoriExpansionRotates : Prop :=
  ∀ (s : State) (rd ra : BitVec 3) (n : Nat) (x : Word), n ≤ 15 → s.hasExt13 = false → s.reg ra = .known x →
    ∃ l u v, Pseudo.expand (.rori rd ra n) = some l ∧ execAll l s = .next u ∧ u.reg rd = .known v ∧
      (∀ i, i < 16 → v.getLsbD ((i + 16 - n) % 16) = x.getLsbD i) ∧
      u.flags = (wordResultOf (.known v)).flags ∧ SameMemBut s u (s.regAddr rd)
end

