-- ==== Sys2Proof/Laws/State.lean ====
section
/-! SUPPORT. What each state update does to each field, one lemma per field per update, so that no later proof unfolds an
update; and the same for the views that the operations read a state through. -/

namespace Sys2Proof

/-! ## UNDEFINED in a computation -/

@[simp] theorem Val.getD_known {α : Type} (a d : α) : (Val.known a).getD d = a := rfl
@[simp] theorem Val.getD_undefined {α : Type} (d : α) : (Val.undefined : Val α).getD d = d := rfl
@[simp] theorem Val.map_known {α β : Type} (f : α → β) (a : α) : (Val.known a).map f = .known (f a) := rfl
@[simp] theorem Val.map_undefined {α β : Type} (f : α → β) : (Val.undefined : Val α).map f = .undefined := rfl
@[simp] theorem Val.map2_known {α β γ : Type} (f : α → β → γ) (a : α) (b : β) :
    Val.map2 f (.known a) (.known b) = .known (f a b) := rfl
@[simp] theorem Val.map2_undefined_left {α β γ : Type} (f : α → β → γ) (y : Val β) :
    Val.map2 f .undefined y = .undefined := rfl
@[simp] theorem Val.map2_undefined_right {α β γ : Type} (f : α → β → γ) (x : Val α) :
    Val.map2 f x .undefined = .undefined := by cases x <;> rfl
@[simp] theorem Val.bind_known {α β : Type} (a : α) (f : α → Val β) : (Val.known a).bind f = f a := rfl
@[simp] theorem Val.bind_undefined {α β : Type} (f : α → Val β) : (Val.undefined : Val α).bind f = .undefined := rfl
@[simp] theorem Val.isKnown_known {α : Type} (a : α) : (Val.known a).isKnown = true := rfl
@[simp] theorem Val.isKnown_undefined {α : Type} : (Val.undefined : Val α).isKnown = false := rfl
@[simp] theorem Val.isKnown_map {α β : Type} (f : α → β) (x : Val α) : (x.map f).isKnown = x.isKnown := by cases x <;> rfl

end Sys2Proof

namespace Sys2Proof.Machine

variable (s : State)

/-! ## A value that steers the machine -/

@[simp] theorem State.pick_known (a : Word) : s.pick (.known a) = a := rfl
@[simp] theorem State.pick_undefined : s.pick .undefined = Config.freeWord s.draws := rfl
@[simp] theorem State.pickBit_known (a : Bool) : s.pickBit (.known a) = a := rfl
@[simp] theorem State.pickBit_undefined : s.pickBit .undefined = Config.freeBit s.draws := rfl
@[simp] theorem State.picked_known {α : Type} (a : α) : s.picked (.known a) = s := rfl
@[simp] theorem State.picked_undefined {α : Type} : s.picked (.undefined : Val α) = { s with draws := s.draws + 1 } := rfl
@[simp] theorem State.nextPc_eq : s.nextPc = s.pc + 1#16 := rfl

/-! ## After writing a register -/

@[simp] theorem State.setReg_pc (r : BitVec 3) (v : Val Word) : (s.setReg r v).pc = s.pc := rfl
@[simp] theorem State.setReg_w (r : BitVec 3) (v : Val Word) : (s.setReg r v).w = s.w := rfl
@[simp] theorem State.setReg_flags (r : BitVec 3) (v : Val Word) : (s.setReg r v).flags = s.flags := rfl
@[simp] theorem State.setReg_ext13 (r : BitVec 3) (v : Val Word) : (s.setReg r v).ext13 = s.ext13 := rfl
@[simp] theorem State.setReg_hasExt13 (r : BitVec 3) (v : Val Word) : (s.setReg r v).hasExt13 = s.hasExt13 := rfl
@[simp] theorem State.setReg_mem (r : BitVec 3) (v : Val Word) : (s.setReg r v).mem = s.mem.write (s.regAddr r) v := rfl
@[simp] theorem State.setReg_bus (r : BitVec 3) (v : Val Word) : (s.setReg r v).bus = s.bus := rfl
@[simp] theorem State.setReg_busAnswers (r : BitVec 3) (v : Val Word) : (s.setReg r v).busAnswers = s.busAnswers := rfl
@[simp] theorem State.setReg_platform (r : BitVec 3) (v : Val Word) : (s.setReg r v).platform = s.platform := rfl
@[simp] theorem State.setReg_draws (r : BitVec 3) (v : Val Word) : (s.setReg r v).draws = s.draws := rfl

/-! ## After a store -/

@[simp] theorem State.store_pc (a : Word) (v : Val Word) : (s.store a v).pc = s.pc := rfl
@[simp] theorem State.store_w (a : Word) (v : Val Word) : (s.store a v).w = s.w := rfl
@[simp] theorem State.store_flags (a : Word) (v : Val Word) : (s.store a v).flags = s.flags := rfl
@[simp] theorem State.store_ext13 (a : Word) (v : Val Word) : (s.store a v).ext13 = s.ext13 := rfl
@[simp] theorem State.store_hasExt13 (a : Word) (v : Val Word) : (s.store a v).hasExt13 = s.hasExt13 := rfl
@[simp] theorem State.store_mem (a : Word) (v : Val Word) : (s.store a v).mem = s.mem.write a v := rfl
@[simp] theorem State.store_bus (a : Word) (v : Val Word) : (s.store a v).bus = s.bus := rfl
@[simp] theorem State.store_busAnswers (a : Word) (v : Val Word) : (s.store a v).busAnswers = s.busAnswers := rfl
@[simp] theorem State.store_platform (a : Word) (v : Val Word) : (s.store a v).platform = s.platform := rfl
@[simp] theorem State.store_draws (a : Word) (v : Val Word) : (s.store a v).draws = s.draws := rfl

/-! ## After clearing the prefix -/

@[simp] theorem State.clearExt_pc : (s.clearExt).pc = s.pc := rfl
@[simp] theorem State.clearExt_w : (s.clearExt).w = s.w := rfl
@[simp] theorem State.clearExt_flags : (s.clearExt).flags = s.flags := rfl
@[simp] theorem State.clearExt_ext13 : (s.clearExt).ext13 = .undefined := rfl
@[simp] theorem State.clearExt_hasExt13 : (s.clearExt).hasExt13 = false := rfl
@[simp] theorem State.clearExt_mem : (s.clearExt).mem = s.mem := rfl
@[simp] theorem State.clearExt_bus : (s.clearExt).bus = s.bus := rfl
@[simp] theorem State.clearExt_busAnswers : (s.clearExt).busAnswers = s.busAnswers := rfl
@[simp] theorem State.clearExt_platform : (s.clearExt).platform = s.platform := rfl
@[simp] theorem State.clearExt_draws : (s.clearExt).draws = s.draws := rfl

/-! ## After the default advance -/

@[simp] theorem State.advance_pc : (s.advance).pc = s.pc + 1#16 := rfl
@[simp] theorem State.advance_w : (s.advance).w = s.w := rfl
@[simp] theorem State.advance_flags : (s.advance).flags = s.flags := rfl
@[simp] theorem State.advance_ext13 : (s.advance).ext13 = .undefined := rfl
@[simp] theorem State.advance_hasExt13 : (s.advance).hasExt13 = false := rfl
@[simp] theorem State.advance_mem : (s.advance).mem = s.mem := rfl
@[simp] theorem State.advance_bus : (s.advance).bus = s.bus := rfl
@[simp] theorem State.advance_busAnswers : (s.advance).busAnswers = s.busAnswers := rfl
@[simp] theorem State.advance_platform : (s.advance).platform = s.platform := rfl
@[simp] theorem State.advance_draws : (s.advance).draws = s.draws := rfl

/-! ## After a jump -/

@[simp] theorem State.jumpTo_pc (t : Val Word) : (s.jumpTo t).pc = s.pick t := by cases t <;> rfl
@[simp] theorem State.jumpTo_w (t : Val Word) : (s.jumpTo t).w = s.w := by cases t <;> rfl
@[simp] theorem State.jumpTo_flags (t : Val Word) : (s.jumpTo t).flags = s.flags := by cases t <;> rfl
@[simp] theorem State.jumpTo_ext13 (t : Val Word) : (s.jumpTo t).ext13 = .undefined := by cases t <;> rfl
@[simp] theorem State.jumpTo_hasExt13 (t : Val Word) : (s.jumpTo t).hasExt13 = false := by cases t <;> rfl
@[simp] theorem State.jumpTo_mem (t : Val Word) : (s.jumpTo t).mem = s.mem := by cases t <;> rfl
@[simp] theorem State.jumpTo_bus (t : Val Word) : (s.jumpTo t).bus = s.bus := by cases t <;> rfl
@[simp] theorem State.jumpTo_busAnswers (t : Val Word) : (s.jumpTo t).busAnswers = s.busAnswers := by cases t <;> rfl
@[simp] theorem State.jumpTo_platform (t : Val Word) : (s.jumpTo t).platform = s.platform := by cases t <;> rfl
@[simp] theorem State.jumpTo_draws (t : Val Word) : (s.jumpTo t).draws = (s.picked t).draws := by cases t <;> rfl

/-! ## After using a value that steers the machine -/

@[simp] theorem State.picked_pc {α : Type} (x : Val α) : (s.picked x).pc = s.pc := by cases x <;> rfl
@[simp] theorem State.picked_w {α : Type} (x : Val α) : (s.picked x).w = s.w := by cases x <;> rfl
@[simp] theorem State.picked_flags {α : Type} (x : Val α) : (s.picked x).flags = s.flags := by cases x <;> rfl
@[simp] theorem State.picked_ext13 {α : Type} (x : Val α) : (s.picked x).ext13 = s.ext13 := by cases x <;> rfl
@[simp] theorem State.picked_hasExt13 {α : Type} (x : Val α) : (s.picked x).hasExt13 = s.hasExt13 := by cases x <;> rfl
@[simp] theorem State.picked_mem {α : Type} (x : Val α) : (s.picked x).mem = s.mem := by cases x <;> rfl
@[simp] theorem State.picked_bus {α : Type} (x : Val α) : (s.picked x).bus = s.bus := by cases x <;> rfl
@[simp] theorem State.picked_busAnswers {α : Type} (x : Val α) : (s.picked x).busAnswers = s.busAnswers := by cases x <;> rfl
@[simp] theorem State.picked_platform {α : Type} (x : Val α) : (s.picked x).platform = s.platform := by cases x <;> rfl
@[simp] theorem State.picked_draws {α : Type} (x : Val α) : (s.picked x).draws = if x.isKnown then s.draws else s.draws + 1 := by cases x <;> rfl

/-! ## After a bus load cycle -/

@[simp] theorem State.extRead_pc (a : Val Word) : (s.extRead a).pc = s.pc := rfl
@[simp] theorem State.extRead_w (a : Val Word) : (s.extRead a).w = s.w := rfl
@[simp] theorem State.extRead_flags (a : Val Word) : (s.extRead a).flags = s.flags := rfl
@[simp] theorem State.extRead_ext13 (a : Val Word) : (s.extRead a).ext13 = s.ext13 := rfl
@[simp] theorem State.extRead_hasExt13 (a : Val Word) : (s.extRead a).hasExt13 = s.hasExt13 := rfl
@[simp] theorem State.extRead_mem (a : Val Word) : (s.extRead a).mem = s.mem := rfl
@[simp] theorem State.extRead_bus (a : Val Word) : (s.extRead a).bus = s.bus ++ [.read a (s.extAnswer a)] := rfl
@[simp] theorem State.extRead_busAnswers (a : Val Word) : (s.extRead a).busAnswers = s.busAnswers.tail := rfl
@[simp] theorem State.extRead_platform (a : Val Word) : (s.extRead a).platform = s.platform := rfl
@[simp] theorem State.extRead_draws (a : Val Word) : (s.extRead a).draws = s.draws := rfl

/-! ## After a bus store cycle -/

@[simp] theorem State.extWrite_pc (a d : Val Word) : (s.extWrite a d).pc = s.pc := rfl
@[simp] theorem State.extWrite_w (a d : Val Word) : (s.extWrite a d).w = s.w := rfl
@[simp] theorem State.extWrite_flags (a d : Val Word) : (s.extWrite a d).flags = s.flags := rfl
@[simp] theorem State.extWrite_ext13 (a d : Val Word) : (s.extWrite a d).ext13 = s.ext13 := rfl
@[simp] theorem State.extWrite_hasExt13 (a d : Val Word) : (s.extWrite a d).hasExt13 = s.hasExt13 := rfl
@[simp] theorem State.extWrite_mem (a d : Val Word) : (s.extWrite a d).mem = s.mem := rfl
@[simp] theorem State.extWrite_bus (a d : Val Word) : (s.extWrite a d).bus = s.bus ++ [.write a d] := rfl
@[simp] theorem State.extWrite_busAnswers (a d : Val Word) : (s.extWrite a d).busAnswers = s.busAnswers := rfl
@[simp] theorem State.extWrite_platform (a d : Val Word) : (s.extWrite a d).platform = s.platform := rfl
@[simp] theorem State.extWrite_draws (a d : Val Word) : (s.extWrite a d).draws = s.draws := rfl

/-! ## After the end of an ALU instruction -/

@[simp] theorem State.writeAlu_pc (rd : BitVec 3) (r : AluResult) : (s.writeAlu rd r).pc = s.pc + 1#16 := rfl
@[simp] theorem State.writeAlu_w (rd : BitVec 3) (r : AluResult) : (s.writeAlu rd r).w = s.w := rfl
@[simp] theorem State.writeAlu_flags (rd : BitVec 3) (r : AluResult) : (s.writeAlu rd r).flags = r.flags := rfl
@[simp] theorem State.writeAlu_ext13 (rd : BitVec 3) (r : AluResult) : (s.writeAlu rd r).ext13 = .undefined := rfl
@[simp] theorem State.writeAlu_hasExt13 (rd : BitVec 3) (r : AluResult) : (s.writeAlu rd r).hasExt13 = false := rfl
@[simp] theorem State.writeAlu_mem (rd : BitVec 3) (r : AluResult) : (s.writeAlu rd r).mem = s.mem.write (s.regAddr rd) r.value := rfl
@[simp] theorem State.writeAlu_bus (rd : BitVec 3) (r : AluResult) : (s.writeAlu rd r).bus = s.bus := rfl
@[simp] theorem State.writeAlu_busAnswers (rd : BitVec 3) (r : AluResult) : (s.writeAlu rd r).busAnswers = s.busAnswers := rfl
@[simp] theorem State.writeAlu_platform (rd : BitVec 3) (r : AluResult) : (s.writeAlu rd r).platform = s.platform := rfl
@[simp] theorem State.writeAlu_draws (rd : BitVec 3) (r : AluResult) : (s.writeAlu rd r).draws = s.draws := rfl

/-! ## After the end of a compare -/

@[simp] theorem State.writeFlags_pc (r : AluResult) : (s.writeFlags r).pc = s.pc + 1#16 := rfl
@[simp] theorem State.writeFlags_w (r : AluResult) : (s.writeFlags r).w = s.w := rfl
@[simp] theorem State.writeFlags_flags (r : AluResult) : (s.writeFlags r).flags = r.flags := rfl
@[simp] theorem State.writeFlags_ext13 (r : AluResult) : (s.writeFlags r).ext13 = .undefined := rfl
@[simp] theorem State.writeFlags_hasExt13 (r : AluResult) : (s.writeFlags r).hasExt13 = false := rfl
@[simp] theorem State.writeFlags_mem (r : AluResult) : (s.writeFlags r).mem = s.mem := rfl
@[simp] theorem State.writeFlags_bus (r : AluResult) : (s.writeFlags r).bus = s.bus := rfl
@[simp] theorem State.writeFlags_busAnswers (r : AluResult) : (s.writeFlags r).busAnswers = s.busAnswers := rfl
@[simp] theorem State.writeFlags_platform (r : AluResult) : (s.writeFlags r).platform = s.platform := rfl
@[simp] theorem State.writeFlags_draws (r : AluResult) : (s.writeFlags r).draws = s.draws := rfl

/-! ## After placing a word at PC -/

@[simp] theorem State.placeAtPc_pc (nbits x : Nat) : (s.placeAtPc nbits x).pc = s.pc := rfl
@[simp] theorem State.placeAtPc_w (nbits x : Nat) : (s.placeAtPc nbits x).w = s.w := rfl
@[simp] theorem State.placeAtPc_flags (nbits x : Nat) : (s.placeAtPc nbits x).flags = s.flags := rfl
@[simp] theorem State.placeAtPc_ext13 (nbits x : Nat) : (s.placeAtPc nbits x).ext13 = s.ext13 := rfl
@[simp] theorem State.placeAtPc_hasExt13 (nbits x : Nat) : (s.placeAtPc nbits x).hasExt13 = s.hasExt13 := rfl
@[simp] theorem State.placeAtPc_mem (nbits x : Nat) : (s.placeAtPc nbits x).mem = s.mem.write s.pc (.known (BitVec.ofNat 16 (x % 2 ^ nbits))) := rfl
@[simp] theorem State.placeAtPc_bus (nbits x : Nat) : (s.placeAtPc nbits x).bus = s.bus := rfl
@[simp] theorem State.placeAtPc_busAnswers (nbits x : Nat) : (s.placeAtPc nbits x).busAnswers = s.busAnswers := rfl
@[simp] theorem State.placeAtPc_platform (nbits x : Nat) : (s.placeAtPc nbits x).platform = s.platform := rfl
@[simp] theorem State.placeAtPc_draws (nbits x : Nat) : (s.placeAtPc nbits x).draws = s.draws := rfl

/-! ## The address of a register depends on W alone -/

@[simp] theorem State.setReg_regAddr (r q : BitVec 3) (v : Val Word) : (s.setReg r v).regAddr q = s.regAddr q := rfl
@[simp] theorem State.store_regAddr (a : Word) (v : Val Word) (q : BitVec 3) : (s.store a v).regAddr q = s.regAddr q := rfl
@[simp] theorem State.clearExt_regAddr (q : BitVec 3) : s.clearExt.regAddr q = s.regAddr q := rfl
@[simp] theorem State.advance_regAddr (q : BitVec 3) : s.advance.regAddr q = s.regAddr q := rfl
@[simp] theorem State.jumpTo_regAddr (t : Val Word) (q : BitVec 3) : (s.jumpTo t).regAddr q = s.regAddr q := by
  cases t <;> rfl
@[simp] theorem State.picked_regAddr {α : Type} (x : Val α) (q : BitVec 3) : (s.picked x).regAddr q = s.regAddr q := by
  cases x <;> rfl
@[simp] theorem State.extRead_regAddr (a : Val Word) (q : BitVec 3) : (s.extRead a).regAddr q = s.regAddr q := rfl
@[simp] theorem State.extWrite_regAddr (a d : Val Word) (q : BitVec 3) : (s.extWrite a d).regAddr q = s.regAddr q := rfl
@[simp] theorem State.writeAlu_regAddr (rd : BitVec 3) (r : AluResult) (q : BitVec 3) :
    (s.writeAlu rd r).regAddr q = s.regAddr q := rfl
@[simp] theorem State.writeFlags_regAddr (r : AluResult) (q : BitVec 3) : (s.writeFlags r).regAddr q = s.regAddr q := rfl

/-! ## Reset -/

@[simp] theorem State.reset_pc : State.reset.pc = Config.resetPc := rfl
@[simp] theorem State.reset_w : State.reset.w = Config.resetW := rfl
@[simp] theorem State.reset_flags :
    State.reset.flags = { z := .undefined, s := .undefined, c := .undefined, v := .undefined } := rfl
@[simp] theorem State.reset_ext13 : State.reset.ext13 = .undefined := rfl
@[simp] theorem State.reset_hasExt13 : State.reset.hasExt13 = false := rfl
@[simp] theorem State.reset_mem : State.reset.mem = [] := rfl
@[simp] theorem State.reset_bus : State.reset.bus = [] := rfl
@[simp] theorem State.reset_busAnswers : State.reset.busAnswers = [] := rfl
@[simp] theorem State.reset_platform : State.reset.platform = {} := rfl
@[simp] theorem State.reset_draws : State.reset.draws = 0 := rfl

/-! ## Reset with parameters -/

/-- There is a machine after reset exactly where `RESET_W` is a multiple of 8, and it is what the parameters say. -/
theorem State.boot_some {p : Params} {s : State} : State.boot p = some s ↔ p.resetW.extractLsb' 0 3 = 0#3 ∧ s = {
    pc := p.resetPc, w := p.resetW, flags := p.resetFlags, ext13 := .undefined, hasExt13 := p.resetHasExt13,
    mem := Memory.load p.memInit, bus := [], busAnswers := p.busAnswers, platform := p.toPlatform, draws := 0 } := by
  unfold State.boot
  split_ifs with h <;> simp [h, eq_comm]

/-- There is none where `RESET_W` is no multiple of 8 (D3). -/
theorem State.boot_none {p : Params} : State.boot p = none ↔ p.resetW.extractLsb' 0 3 ≠ 0#3 := by
  unfold State.boot
  split_ifs with h <;> simp [h]

/-- At the default parameters it is the reset state. -/
theorem State.boot_default : State.boot {} = some State.reset := rfl

end Sys2Proof.Machine
end

