-- ==== Sys2Proof/Laws/Memory.lean ====
section
/-! SUPPORT. Memory: a read after a write (R16), and every memory operation keeps the canonical form. -/

namespace Sys2Proof.Machine

/-! ## Reading after writing -/

@[simp] theorem Memory.find_insert_same (m : Memory) (a : Nat) (v : Word) : (m.insert a v).find a = .known v := by
  induction m with
  | nil => simp [Memory.insert, Memory.find]
  | cons p rest ih =>
    obtain ⟨k, u⟩ := p
    unfold Memory.insert
    split_ifs with h1 h2
    · simp [Memory.find]
    · simp [Memory.find]
    · simp [Memory.find, h2, ih]

theorem Memory.find_insert_other (m : Memory) {a b : Nat} (v : Word) (h : b ≠ a) : (m.insert a v).find b = m.find b := by
  induction m with
  | nil => simp [Memory.insert, Memory.find, h.symm]
  | cons p rest ih =>
    obtain ⟨k, u⟩ := p
    unfold Memory.insert
    split_ifs with h1 h2
    · simp [Memory.find, h.symm]
    · subst h2
      simp [Memory.find, h.symm]
    · simp [Memory.find, ih]

@[simp] theorem Memory.find_erase_same (m : Memory) (a : Nat) : (m.erase a).find a = .undefined := by
  induction m with
  | nil => rfl
  | cons p rest ih =>
    obtain ⟨k, u⟩ := p
    unfold Memory.erase
    split_ifs with h1
    · exact ih
    · simp [Memory.find, h1, ih]

theorem Memory.find_erase_other (m : Memory) {a b : Nat} (h : b ≠ a) : (m.erase a).find b = m.find b := by
  induction m with
  | nil => rfl
  | cons p rest ih =>
    obtain ⟨k, u⟩ := p
    unfold Memory.erase
    split_ifs with h1
    · subst h1
      simp [Memory.find, h.symm, ih]
    · simp [Memory.find, ih]

/-- A read at the address just written gives the value written, defined or not. -/
@[simp] theorem Memory.read_write_same (m : Memory) (a : Word) (v : Val Word) : (m.write a v).read a = v := by
  cases v <;> simp [Memory.write, Memory.read]

/-- A write leaves every other address alone. -/
theorem Memory.read_write_other (m : Memory) {a b : Word} (v : Val Word) (h : b ≠ a) : (m.write a v).read b = m.read b := by
  have hn : b.toNat ≠ a.toNat := fun e => h (BitVec.eq_of_toNat_eq e)
  cases v
  · exact Memory.find_insert_other m _ hn
  · exact Memory.find_erase_other m hn

/-- Both cases of a read after a write. -/
theorem Memory.read_write (m : Memory) (a b : Word) (v : Val Word) :
    (m.write a v).read b = if b = a then v else m.read b := by
  split_ifs with h
  · rw [h, Memory.read_write_same]
  · exact Memory.read_write_other m v h

@[simp] theorem Memory.read_nil (a : Word) : Memory.read [] a = .undefined := rfl

/-! ## The canonical form -/

/-- The canonical form of a list with a first entry, said of all the entries after it. -/
theorem Memory.wf_cons (a : Nat) (v : Word) (m : Memory) :
    Memory.wf ((a, v) :: m) = true ↔ a < 65536 ∧ (∀ p ∈ m, a < p.1) ∧ m.wf = true := by
  induction m generalizing a v with
  | nil => simp [Memory.wf]
  | cons p rest ih =>
    obtain ⟨b, u⟩ := p
    simp only [Memory.wf, Bool.and_eq_true, decide_eq_true_eq, List.mem_cons, forall_eq_or_imp]
    constructor
    · rintro ⟨hab, hw⟩
      have hb := (ih b u).1 hw
      exact ⟨by omega, ⟨hab, fun p hp => hab.trans (hb.2.1 p hp)⟩, hw⟩
    · rintro ⟨_, ⟨hab, _⟩, hw⟩
      exact ⟨hab, hw⟩

theorem Memory.mem_insert {m : Memory} {a : Nat} {v : Word} {p : Nat × Word} (h : p ∈ m.insert a v) :
    p = (a, v) ∨ p ∈ m := by
  induction m with
  | nil => simpa [Memory.insert] using h
  | cons q rest ih =>
    obtain ⟨k, u⟩ := q
    unfold Memory.insert at h
    split_ifs at h with h1 h2
    · simpa using h
    · rcases List.mem_cons.1 h with h | h
      · exact .inl h
      · exact .inr (List.mem_cons_of_mem _ h)
    · rcases List.mem_cons.1 h with h | h
      · exact .inr (h ▸ List.mem_cons_self)
      · exact (ih h).imp_right (List.mem_cons_of_mem _)

theorem Memory.mem_erase {m : Memory} {a : Nat} {p : Nat × Word} (h : p ∈ m.erase a) : p ∈ m := by
  induction m with
  | nil => exact h
  | cons q rest ih =>
    obtain ⟨k, u⟩ := q
    unfold Memory.erase at h
    split_ifs at h with h1
    · exact List.mem_cons_of_mem _ (ih h)
    · rcases List.mem_cons.1 h with h | h
      · exact h ▸ List.mem_cons_self
      · exact List.mem_cons_of_mem _ (ih h)

theorem Memory.wf_insert {m : Memory} {a : Nat} (v : Word) (ha : a < 65536) (h : m.wf = true) : (m.insert a v).wf = true := by
  induction m with
  | nil => simpa [Memory.insert, Memory.wf] using ha
  | cons q rest ih =>
    obtain ⟨k, u⟩ := q
    obtain ⟨hk, hall, hrest⟩ := (Memory.wf_cons k u rest).1 h
    unfold Memory.insert
    split_ifs with h1 h2
    · refine (Memory.wf_cons _ _ _).2 ⟨ha, ?_, h⟩
      intro p hp
      rcases List.mem_cons.1 hp with hp | hp
      · simpa [hp] using h1
      · exact h1.trans (hall p hp)
    · exact (Memory.wf_cons _ _ _).2 ⟨ha, h2 ▸ hall, hrest⟩
    · refine (Memory.wf_cons _ _ _).2 ⟨hk, ?_, ih hrest⟩
      intro p hp
      rcases Memory.mem_insert hp with hp | hp
      · simp only [hp]; omega
      · exact hall p hp

theorem Memory.wf_erase {m : Memory} (a : Nat) (h : m.wf = true) : (m.erase a).wf = true := by
  induction m with
  | nil => rfl
  | cons q rest ih =>
    obtain ⟨k, u⟩ := q
    obtain ⟨hk, hall, hrest⟩ := (Memory.wf_cons k u rest).1 h
    unfold Memory.erase
    split_ifs with h1
    · exact ih hrest
    · exact (Memory.wf_cons _ _ _).2 ⟨hk, fun p hp => hall p (Memory.mem_erase hp), ih hrest⟩

/-- A write keeps the canonical form. -/
theorem Memory.wf_write {m : Memory} (a : Word) (v : Val Word) (h : m.wf = true) : (m.write a v).wf = true := by
  cases v
  · exact Memory.wf_insert _ a.isLt h
  · exact Memory.wf_erase _ h

/-- Memory at reset is in the canonical form. -/
theorem State.reset_mem_wf : State.reset.mem.wf = true := rfl

/-- Memory with a program placed in it is in the canonical form. -/
theorem Memory.wf_load (l : List (Word × Word)) : (Memory.load l).wf = true := by
  induction l with
  | nil => rfl
  | cons p rest ih => exact Memory.wf_write p.1 _ ih

/-- Memory with a program placed in it holds the words that the program gives, and is UNDEFINED elsewhere (R76). -/
theorem Memory.read_load (l : List (Word × Word)) (a : Word) :
    (Memory.load l).read a = match l.lookup a with
      | some v => .known v
      | none => .undefined := by
  induction l with
  | nil => rfl
  | cons p rest ih =>
    obtain ⟨b, v⟩ := p
    rw [Memory.load, Memory.read_write, List.lookup_cons, ih]
    by_cases h : a = b
    · simp [h]
    · simp [h, beq_eq_false_iff_ne.2 h]

/-! ## Reading registers after a register write -/

theorem State.reg_eq (s : State) (r : BitVec 3) : s.reg r = s.mem.read (s.regAddr r) := rfl

@[simp] theorem State.reg_setReg_same (s : State) (r : BitVec 3) (v : Val Word) : (s.setReg r v).reg r = v :=
  Memory.read_write_same _ _ _

/-- Two registers of one window are two words. -/
theorem State.regAddr_injective (s : State) {r q : BitVec 3} (h : s.regAddr r = s.regAddr q) : r = q := by
  unfold State.regAddr at h
  bv_omega

theorem State.reg_setReg_other (s : State) {r q : BitVec 3} (v : Val Word) (h : q ≠ r) : (s.setReg r v).reg q = s.reg q :=
  Memory.read_write_other _ _ fun e => h (s.regAddr_injective e)

@[simp] theorem State.reg_advance (s : State) (r : BitVec 3) : s.advance.reg r = s.reg r := rfl
@[simp] theorem State.reg_picked {α : Type} (s : State) (x : Val α) (r : BitVec 3) : (s.picked x).reg r = s.reg r := by
  cases x <;> rfl
@[simp] theorem State.reg_jumpTo (s : State) (t : Val Word) (r : BitVec 3) : (s.jumpTo t).reg r = s.reg r := by
  cases t <;> rfl
@[simp] theorem State.reg_writeAlu (s : State) (rd : BitVec 3) (x : AluResult) : (s.writeAlu rd x).reg rd = x.value :=
  Memory.read_write_same _ _ _

end Sys2Proof.Machine
end

