-- ==== Sys2Proof/Laws/Ops.lean ====
section
/-! SUPPORT. For each shared operation, once, everything it can do. -/

namespace Sys2Proof.Machine

/-! ## Answers -/

/-- An operation that may stop first goes on exactly where it does not stop. -/
theorem orFault_next {α : Type} {x : Except Fault α} {k : α → Answer} {t : State} :
    orFault x k = .next t ↔ ∃ a, x = .ok a ∧ k a = .next t := by
  cases x <;> simp [orFault]

/-- It stops where the first part stops, or where the rest does. -/
theorem orFault_fault {α : Type} {x : Except Fault α} {k : α → Answer} {f : Fault} :
    orFault x k = .fault f ↔ x = .error f ∨ ∃ a, x = .ok a ∧ k a = .fault f := by
  cases x <;> simp [orFault]

@[simp] theorem orFault_ok {α : Type} (a : α) (k : α → Answer) : orFault (.ok a) k = k a := rfl
@[simp] theorem orFault_error {α : Type} (f : Fault) (k : α → Answer) : orFault (.error f) k = .fault f := rfl

/-! ## Operand fields -/

/-- A 5-bit field answers in its short form, and in its long form if its upper bits are zero. -/
theorem State.imm5_cases (s : State) (f : BitVec 5) :
    (s.hasExt13 = false ∧ s.imm5 f = .ok (.known (f.signExtend 16))) ∨
    (s.hasExt13 = true ∧ f.extractLsb' 3 2 = 0#2 ∧ s.imm5 f = .ok (s.longImm (f.extractLsb' 0 3))) ∨
    (s.hasExt13 = true ∧ f.extractLsb' 3 2 ≠ 0#2 ∧ s.imm5 f = .error .longFormFieldBits) := by
  unfold State.imm5
  cases h : s.hasExt13 <;> by_cases hf : f.extractLsb' 3 2 = 0#2 <;> simp [hf]

/-- An 8-bit field answers in its short form, and in its long form if its upper bits are zero. -/
theorem State.imm8_cases (s : State) (f : BitVec 8) :
    (s.hasExt13 = false ∧ s.imm8 f = .ok (.known (f.signExtend 16))) ∨
    (s.hasExt13 = true ∧ f.extractLsb' 3 5 = 0#5 ∧ s.imm8 f = .ok (s.longImm (f.extractLsb' 0 3))) ∨
    (s.hasExt13 = true ∧ f.extractLsb' 3 5 ≠ 0#5 ∧ s.imm8 f = .error .longFormFieldBits) := by
  unfold State.imm8
  cases h : s.hasExt13 <;> by_cases hf : f.extractLsb' 3 5 = 0#5 <;> simp [hf]

/-- A 5-bit field stops the machine for one reason only. -/
theorem State.imm5_error {s : State} {f : BitVec 5} {e : Fault} (h : s.imm5 f = .error e) : e = .longFormFieldBits := by
  rcases s.imm5_cases f with ⟨_, h'⟩ | ⟨_, _, h'⟩ | ⟨_, _, h'⟩ <;> rw [h'] at h <;> cases h
  rfl

/-- An 8-bit field stops the machine for one reason only. -/
theorem State.imm8_error {s : State} {f : BitVec 8} {e : Fault} (h : s.imm8 f = .error e) : e = .longFormFieldBits := by
  rcases s.imm8_cases f with ⟨_, h'⟩ | ⟨_, _, h'⟩ | ⟨_, _, h'⟩ <;> rw [h'] at h <;> cases h
  rfl

/-- An arithmetic or logic immediate stops the machine for one reason only. -/
theorem State.immAl_error {s : State} {f : BitVec 3} {e : Fault} (h : s.immAl f = .error e) : e = .immAl3Unset := by
  unfold State.immAl decodeImmAl at h
  split at h
  · cases h
  · split at h
    case h_4 =>
      split at h <;> cases h
      rfl
    all_goals cases h

/-! ## Shift, window move, branch -/

/-- A shift or rotate goes on exactly when the amount it tests is at most 15. -/
theorem State.shift_next {s t : State} {f : Word → Nat → Word} {rd : BitVec 3} {a amount : Val Word} :
    s.shift f rd a amount = .next t ↔ (s.pick amount).toNat ≤ 15 ∧
      t = (s.picked amount).writeAlu rd (logicResult (Val.map2 (fun x n => f x n.toNat) a amount)) := by
  unfold State.shift
  split_ifs with h
  · exact ⟨fun e => (nomatch e), fun e => absurd e.1 (by omega)⟩
  · exact ⟨fun e => ⟨by omega, (Host.Outcome.next.inj e).symm⟩, fun e => by rw [e.2]⟩

/-- A shift or rotate stops for one reason only. -/
theorem State.shift_fault {s : State} {f : Word → Nat → Word} {rd : BitVec 3} {a amount : Val Word} {e : Fault} :
    s.shift f rd a amount = .fault e ↔ 15 < (s.pick amount).toNat ∧ e = .shiftAmount := by
  unfold State.shift
  split_ifs with h <;> simp [h, eq_comm]

/-- A window move goes on exactly when the value given is a multiple of 8. -/
theorem State.moveWindow_next {s t : State} {given target : Word} {k : State → State} :
    s.moveWindow given target k = .next t ↔
      given.extractLsb' 0 3 = 0#3 ∧ t = (k { s with w := target }).advance := by
  unfold State.moveWindow
  split_ifs with h
  · exact ⟨fun e => ⟨h, (Host.Outcome.next.inj e).symm⟩, fun e => by rw [e.2]⟩
  · exact ⟨fun e => (nomatch e), fun e => absurd e.1 h⟩

/-- A window move stops for one reason only. -/
theorem State.moveWindow_fault {s : State} {given target : Word} {k : State → State} {e : Fault} :
    s.moveWindow given target k = .fault e ↔ given.extractLsb' 0 3 ≠ 0#3 ∧ e = .windowAlignment := by
  unfold State.moveWindow
  split_ifs with h
  · exact ⟨fun e => (nomatch e), fun e => absurd h e.1⟩
  · exact ⟨fun e => ⟨h, (Host.Outcome.fault.inj e).symm⟩, fun e => by rw [e.2]⟩

/-- A branch goes on exactly when its field is legal, to the target or to the next word. -/
theorem State.branch_next {s t : State} {cond : Val Bool} {off : BitVec 8} :
    s.branch cond off = .next t ↔ ∃ o, s.imm8 off = .ok o ∧
      t = (s.picked cond).jumpTo (if s.pickBit cond then s.pcPlus o else .known (s.pc + 1#16)) := by
  unfold State.branch
  rw [orFault_next]
  exact ⟨fun ⟨o, h, e⟩ => ⟨o, h, (Host.Outcome.next.inj e).symm⟩, fun ⟨o, h, e⟩ => ⟨o, h, by rw [e]; rfl⟩⟩

/-- A branch stops for one reason only. -/
theorem State.branch_fault {s : State} {cond : Val Bool} {off : BitVec 8} {e : Fault} :
    s.branch cond off = .fault e ↔ s.imm8 off = .error e := by
  unfold State.branch
  rw [orFault_fault]
  simp

/-! ## Loads, stores, bus cycles: the fields they leave and the one word they write -/

@[simp] theorem State.load_mem (s : State) (rd : BitVec 3) (a : Val Word) :
    (s.load rd a).mem = s.mem.write (s.regAddr rd) (s.mem.readAt a) := rfl
@[simp] theorem State.load_pc (s : State) (rd : BitVec 3) (a : Val Word) : (s.load rd a).pc = s.pc + 1#16 := rfl
@[simp] theorem State.load_w (s : State) (rd : BitVec 3) (a : Val Word) : (s.load rd a).w = s.w := rfl
@[simp] theorem State.load_flags (s : State) (rd : BitVec 3) (a : Val Word) : (s.load rd a).flags = s.flags := rfl
@[simp] theorem State.load_ext13 (s : State) (rd : BitVec 3) (a : Val Word) : (s.load rd a).ext13 = .undefined := rfl
@[simp] theorem State.load_hasExt13 (s : State) (rd : BitVec 3) (a : Val Word) : (s.load rd a).hasExt13 = false := rfl
@[simp] theorem State.load_bus (s : State) (rd : BitVec 3) (a : Val Word) : (s.load rd a).bus = s.bus := rfl
@[simp] theorem State.load_busAnswers (s : State) (rd : BitVec 3) (a : Val Word) : (s.load rd a).busAnswers = s.busAnswers := rfl
@[simp] theorem State.load_platform (s : State) (rd : BitVec 3) (a : Val Word) : (s.load rd a).platform = s.platform := rfl
@[simp] theorem State.load_draws (s : State) (rd : BitVec 3) (a : Val Word) : (s.load rd a).draws = s.draws := rfl

@[simp] theorem State.storeReg_mem (s : State) (rs : BitVec 3) (a : Val Word) :
    (s.storeReg rs a).mem = s.mem.write (s.pick a) (s.reg rs) := by cases a <;> rfl
@[simp] theorem State.storeReg_pc (s : State) (rs : BitVec 3) (a : Val Word) : (s.storeReg rs a).pc = s.pc + 1#16 := by
  cases a <;> rfl
@[simp] theorem State.storeReg_w (s : State) (rs : BitVec 3) (a : Val Word) : (s.storeReg rs a).w = s.w := by
  cases a <;> rfl
@[simp] theorem State.storeReg_flags (s : State) (rs : BitVec 3) (a : Val Word) : (s.storeReg rs a).flags = s.flags := by
  cases a <;> rfl
@[simp] theorem State.storeReg_ext13 (s : State) (rs : BitVec 3) (a : Val Word) :
    (s.storeReg rs a).ext13 = .undefined := by cases a <;> rfl
@[simp] theorem State.storeReg_hasExt13 (s : State) (rs : BitVec 3) (a : Val Word) :
    (s.storeReg rs a).hasExt13 = false := by cases a <;> rfl
@[simp] theorem State.storeReg_bus (s : State) (rs : BitVec 3) (a : Val Word) : (s.storeReg rs a).bus = s.bus := by
  cases a <;> rfl
@[simp] theorem State.storeReg_busAnswers (s : State) (rs : BitVec 3) (a : Val Word) :
    (s.storeReg rs a).busAnswers = s.busAnswers := by cases a <;> rfl
@[simp] theorem State.storeReg_platform (s : State) (rs : BitVec 3) (a : Val Word) :
    (s.storeReg rs a).platform = s.platform := by cases a <;> rfl
@[simp] theorem State.storeReg_draws (s : State) (rs : BitVec 3) (a : Val Word) :
    (s.storeReg rs a).draws = (s.picked a).draws := by cases a <;> rfl

/-- A bus load is one read cycle, whose answer goes to Rd. -/
theorem State.busLoad_eq (s : State) (rd : BitVec 3) (a : Val Word) :
    s.busLoad rd a = { s with
      mem := s.mem.write (s.regAddr rd) (s.extAnswer a), bus := s.bus ++ [.read a (s.extAnswer a)],
      busAnswers := s.busAnswers.tail, pc := s.pc + 1#16, ext13 := .undefined, hasExt13 := false } := rfl

/-- The bus answers with the next supplied word, if there is one. -/
theorem State.busWord_cons {s : State} {v : Word} {l : List Word} (h : s.busAnswers = v :: l) (a : Word) :
    s.busWord a = v := by simp [State.busWord, h]

/-- Where no answer is supplied, the bus answers with any word. -/
theorem State.busWord_nil {s : State} (h : s.busAnswers = []) (a : Word) :
    s.busWord a = Config.extOracle s.bus a := by simp [State.busWord, h]

/-- A bus store is one write cycle, and changes nothing of the CPU but PC and the prefix. -/
theorem State.busStore_eq (s : State) (rs : BitVec 3) (a : Val Word) :
    s.busStore rs a = { s with
      bus := s.bus ++ [.write a (s.reg rs)], pc := s.pc + 1#16, ext13 := .undefined, hasExt13 := false } := rfl

/-! ## Memory that exists -/

/-- At the default every word exists (R77). -/
theorem State.populated_of_whole {s : State}
    (h : s.platform.memPopulated = [{ first := 0x0000#16, last := 0xFFFF#16 }]) (a : Val Word) : s.populated a = true := by
  cases a with
  | undefined => rfl
  | known a =>
    have := a.isLt
    simp [State.populated, h, AddrRange.holds]
    omega

/-- Which words exist depends on the parameters alone. -/
theorem State.populated_congr {s t : State} (h : t.platform = s.platform) : t.populated = s.populated := by
  funext a; cases a <;> simp [State.populated, h]

/-- Where every access exists, the machine goes on as if there were no test. -/
theorem State.inMemory_of {s : State} {l : List (Val Word)} (h : ∀ a ∈ l, s.populated a = true) (k : Answer) :
    s.inMemory l k = k := by
  simp only [State.inMemory, List.all_eq_true]; rw [if_pos h]

/-- Where one does not, it is refused. -/
theorem State.inMemory_not {s : State} {l : List (Val Word)} (h : ¬ ∀ a ∈ l, s.populated a = true) (k : Answer) :
    s.inMemory l k = .refused .unpopulatedMemory := by
  simp only [State.inMemory, List.all_eq_true]; rw [if_neg h]

/-- It goes on exactly where every access exists and the rest goes on. -/
theorem State.inMemory_next {s t : State} {l : List (Val Word)} {k : Answer} :
    s.inMemory l k = .next t ↔ (∀ a ∈ l, s.populated a = true) ∧ k = .next t := by
  by_cases h : ∀ a ∈ l, s.populated a = true
  · rw [State.inMemory_of h]; exact ⟨fun e => ⟨h, e⟩, fun e => e.2⟩
  · rw [State.inMemory_not h]; exact ⟨fun e => (nomatch e), fun e => absurd e.1 h⟩

/-- Where the word written exists, nothing is added to the answer. -/
theorem State.writesInMemory_of {s : State} {l : List (Val Word)} (h : ∀ a ∈ l, s.populated a = true) (k : Answer) :
    s.writesInMemory l k = k := by
  cases k <;> simp [State.writesInMemory, State.inMemory_of h]

/-- An instruction that stops stops as it does, whatever it would have written. -/
theorem State.writesInMemory_stop {s : State} {l : List (Val Word)} {k : Answer} (h : ∀ t, k ≠ .next t) :
    s.writesInMemory l k = k := by
  cases k with
  | next t => exact absurd rfl (h t)
  | fault f => rfl
  | refused r => rfl

/-- It goes on exactly where the word written exists and the instruction goes on. -/
theorem State.writesInMemory_next {s t : State} {l : List (Val Word)} {k : Answer} :
    s.writesInMemory l k = .next t ↔ (∀ a ∈ l, s.populated a = true) ∧ k = .next t := by
  cases k <;> simp [State.writesInMemory, State.inMemory_next]

/-! ## A step -/

/-- Whatever the accesses, a step of an instruction it decodes is this. -/
theorem step_of_decode {s : State} {i : Instr} (h : decode s.fetchWord = .ok i) :
    step s = s.inMemory [.known s.pc] (s.afterFetch.inMemory (s.afterFetch.reads i)
      (s.afterFetch.writesInMemory (s.afterFetch.writes i) (exec i s.afterFetch))) := by
  unfold step; rw [h]

/-- A step runs the instruction it decodes, in the state after the fetch, where the words it reads exist, and the word it writes
does or the instruction stops first. -/
theorem step_of_exist {s : State} {i : Instr} (h : decode s.fetchWord = .ok i) (hp : s.populated (.known s.pc) = true)
    (hr : ∀ a ∈ s.afterFetch.reads i, s.afterFetch.populated a = true)
    (hw : (∀ a ∈ s.afterFetch.writes i, s.afterFetch.populated a = true) ∨ ∀ t, exec i s.afterFetch ≠ .next t) :
    step s = exec i s.afterFetch := by
  rw [step_of_decode h, State.inMemory_of (by simpa using hp), State.inMemory_of hr]
  rcases hw with hw | hw
  · exact State.writesInMemory_of hw _
  · exact State.writesInMemory_stop hw

/-- A step is refused where a word it fetches or reads does not exist (R77). -/
theorem step_of_unread {s : State} {i : Instr} (h : decode s.fetchWord = .ok i)
    (ha : ¬ (s.populated (.known s.pc) = true ∧ ∀ a ∈ s.afterFetch.reads i, s.afterFetch.populated a = true)) :
    step s = .refused .unpopulatedMemory := by
  rw [step_of_decode h]
  by_cases hp : s.populated (.known s.pc) = true
  · rw [State.inMemory_of (by simpa using hp)]
    exact State.inMemory_not (fun x => ha ⟨hp, x⟩) _
  · exact State.inMemory_not (by simpa using hp) _

/-- A step over a word that is no instruction stops. -/
theorem step_of_error {s : State} {why : Unlisted} (h : decode s.fetchWord = .error why)
    (hp : s.populated (.known s.pc) = true) : step s = .fault (.unlistedEncoding why) := by
  unfold step
  rw [State.inMemory_of (by simpa using hp), h]

/-- Everything a step that goes on can be. -/
theorem step_next {s t : State} : step s = .next t ↔ s.populated (.known s.pc) = true ∧ ∃ i, decode s.fetchWord = .ok i ∧
    (∀ a ∈ s.afterFetch.reads i, s.afterFetch.populated a = true) ∧
    (∀ a ∈ s.afterFetch.writes i, s.afterFetch.populated a = true) ∧ exec i s.afterFetch = .next t := by
  unfold step
  rw [State.inMemory_next]
  cases h : decode s.fetchWord <;> simp [State.inMemory_next, State.writesInMemory_next]

/-- A fetch of a defined word changes nothing. -/
theorem State.fetch_known {s : State} {w : Word} (h : s.fetched = .known w) : s.fetchWord = w ∧ s.afterFetch = s := by
  simp [State.fetchWord, State.afterFetch, h]

/-- The word placed at PC is the word fetched. -/
@[simp] theorem State.withFetchWord_fetched (s : State) (nbits w : Nat) :
    (s.withFetchWord nbits w).fetched = .known (BitVec.ofNat 16 (w % 2 ^ nbits)) := by
  simp [State.fetched, State.withFetchWord]

end Sys2Proof.Machine
end

