-- ==== Sys2Proof/Laws/Encoding.lean ====
section
/-! SUPPORT. The formats bit by bit: every bit of an encoded word is a bit of one of its fields, and each field is read back
from the place it was put. -/

namespace Sys2Proof

/-! ## The bits of each format (R104 to R110) -/

theorem Laws.encodeR3_bit (m : BitVec 5) (d a : BitVec 3) (t : BitVec 2) (b : BitVec 3) (i : Nat) :
    (encodeR3 m d a t b).getLsbD i =
      if i < 3 then b.getLsbD i else
      if i - 3 < 2 then t.getLsbD (i - 3) else
      if i - 3 - 2 < 3 then a.getLsbD (i - 3 - 2) else
      if i - 3 - 2 - 3 < 3 then d.getLsbD (i - 3 - 2 - 3) else
      m.getLsbD (i - 3 - 2 - 3 - 3) := by
  unfold encodeR3
  erw [BitVec.getLsbD_append, BitVec.getLsbD_append, BitVec.getLsbD_append, BitVec.getLsbD_append]

theorem Laws.encodeM5_bit (m : BitVec 5) (d a : BitVec 3) (f : BitVec 5) (i : Nat) :
    (encodeM5 m d a f).getLsbD i =
      if i < 5 then f.getLsbD i else
      if i - 5 < 3 then a.getLsbD (i - 5) else
      if i - 5 - 3 < 3 then d.getLsbD (i - 5 - 3) else
      m.getLsbD (i - 5 - 3 - 3) := by
  unfold encodeM5
  erw [BitVec.getLsbD_append, BitVec.getLsbD_append, BitVec.getLsbD_append]

theorem Laws.encodeI8_bit (m : BitVec 5) (d : BitVec 3) (f : BitVec 8) (i : Nat) :
    (encodeI8 m d f).getLsbD i =
      if i < 8 then f.getLsbD i else
      if i - 8 < 3 then d.getLsbD (i - 8) else
      m.getLsbD (i - 8 - 3) := by
  unfold encodeI8
  erw [BitVec.getLsbD_append, BitVec.getLsbD_append]

theorem Laws.encodeB_bit (c : BitVec 4) (f : BitVec 8) (i : Nat) :
    (encodeB c f).getLsbD i =
      if i < 8 then f.getLsbD i else
      if i - 8 < 4 then c.getLsbD (i - 8) else
      (0b1011#4).getLsbD (i - 8 - 4) := by
  unfold encodeB
  erw [BitVec.getLsbD_append, BitVec.getLsbD_append]

theorem Laws.encodeE_bit (f : BitVec 13) (i : Nat) :
    (encodeE f).getLsbD i =
      if i < 13 then f.getLsbD i else
      (0b110#3).getLsbD (i - 13) := by
  unfold encodeE
  erw [BitVec.getLsbD_append]

/-! ## Each field is read back -/

@[simp] theorem Laws.fieldMajor_encodeR3 (m : BitVec 5) (d a : BitVec 3) (t : BitVec 2) (b : BitVec 3) : fieldMajor (encodeR3 m d a t b) = m := by
  refine BitVec.eq_of_getLsbD_eq fun i hi => ?_
  unfold fieldMajor
  rw [BitVec.getLsbD_extractLsb', Laws.encodeR3_bit]
  interval_cases i <;> simp

@[simp] theorem Laws.fieldD_encodeR3 (m : BitVec 5) (d a : BitVec 3) (t : BitVec 2) (b : BitVec 3) : fieldD (encodeR3 m d a t b) = d := by
  refine BitVec.eq_of_getLsbD_eq fun i hi => ?_
  unfold fieldD
  rw [BitVec.getLsbD_extractLsb', Laws.encodeR3_bit]
  interval_cases i <;> simp

@[simp] theorem Laws.fieldA_encodeR3 (m : BitVec 5) (d a : BitVec 3) (t : BitVec 2) (b : BitVec 3) : fieldA (encodeR3 m d a t b) = a := by
  refine BitVec.eq_of_getLsbD_eq fun i hi => ?_
  unfold fieldA
  rw [BitVec.getLsbD_extractLsb', Laws.encodeR3_bit]
  interval_cases i <;> simp

@[simp] theorem Laws.fieldType_encodeR3 (m : BitVec 5) (d a : BitVec 3) (t : BitVec 2) (b : BitVec 3) : fieldType (encodeR3 m d a t b) = t := by
  refine BitVec.eq_of_getLsbD_eq fun i hi => ?_
  unfold fieldType
  rw [BitVec.getLsbD_extractLsb', Laws.encodeR3_bit]
  interval_cases i <;> simp

@[simp] theorem Laws.fieldB_encodeR3 (m : BitVec 5) (d a : BitVec 3) (t : BitVec 2) (b : BitVec 3) : fieldB (encodeR3 m d a t b) = b := by
  refine BitVec.eq_of_getLsbD_eq fun i hi => ?_
  unfold fieldB
  rw [BitVec.getLsbD_extractLsb', Laws.encodeR3_bit]
  interval_cases i <;> simp

@[simp] theorem Laws.fieldMajor_encodeM5 (m : BitVec 5) (d a : BitVec 3) (f : BitVec 5) : fieldMajor (encodeM5 m d a f) = m := by
  refine BitVec.eq_of_getLsbD_eq fun i hi => ?_
  unfold fieldMajor
  rw [BitVec.getLsbD_extractLsb', Laws.encodeM5_bit]
  interval_cases i <;> simp

@[simp] theorem Laws.fieldD_encodeM5 (m : BitVec 5) (d a : BitVec 3) (f : BitVec 5) : fieldD (encodeM5 m d a f) = d := by
  refine BitVec.eq_of_getLsbD_eq fun i hi => ?_
  unfold fieldD
  rw [BitVec.getLsbD_extractLsb', Laws.encodeM5_bit]
  interval_cases i <;> simp

@[simp] theorem Laws.fieldA_encodeM5 (m : BitVec 5) (d a : BitVec 3) (f : BitVec 5) : fieldA (encodeM5 m d a f) = a := by
  refine BitVec.eq_of_getLsbD_eq fun i hi => ?_
  unfold fieldA
  rw [BitVec.getLsbD_extractLsb', Laws.encodeM5_bit]
  interval_cases i <;> simp

@[simp] theorem Laws.field5_encodeM5 (m : BitVec 5) (d a : BitVec 3) (f : BitVec 5) : field5 (encodeM5 m d a f) = f := by
  refine BitVec.eq_of_getLsbD_eq fun i hi => ?_
  unfold field5
  rw [BitVec.getLsbD_extractLsb', Laws.encodeM5_bit]
  interval_cases i <;> simp

@[simp] theorem Laws.fieldMajor_encodeI8 (m : BitVec 5) (d : BitVec 3) (f : BitVec 8) : fieldMajor (encodeI8 m d f) = m := by
  refine BitVec.eq_of_getLsbD_eq fun i hi => ?_
  unfold fieldMajor
  rw [BitVec.getLsbD_extractLsb', Laws.encodeI8_bit]
  interval_cases i <;> simp

@[simp] theorem Laws.fieldD_encodeI8 (m : BitVec 5) (d : BitVec 3) (f : BitVec 8) : fieldD (encodeI8 m d f) = d := by
  refine BitVec.eq_of_getLsbD_eq fun i hi => ?_
  unfold fieldD
  rw [BitVec.getLsbD_extractLsb', Laws.encodeI8_bit]
  interval_cases i <;> simp

@[simp] theorem Laws.field8_encodeI8 (m : BitVec 5) (d : BitVec 3) (f : BitVec 8) : field8 (encodeI8 m d f) = f := by
  refine BitVec.eq_of_getLsbD_eq fun i hi => ?_
  unfold field8
  rw [BitVec.getLsbD_extractLsb', Laws.encodeI8_bit]
  interval_cases i <;> simp

@[simp] theorem Laws.fieldCond_encodeB (c : BitVec 4) (f : BitVec 8) : fieldCond (encodeB c f) = c := by
  refine BitVec.eq_of_getLsbD_eq fun i hi => ?_
  unfold fieldCond
  rw [BitVec.getLsbD_extractLsb', Laws.encodeB_bit]
  interval_cases i <;> simp

@[simp] theorem Laws.field8_encodeB (c : BitVec 4) (f : BitVec 8) : field8 (encodeB c f) = f := by
  refine BitVec.eq_of_getLsbD_eq fun i hi => ?_
  unfold field8
  rw [BitVec.getLsbD_extractLsb', Laws.encodeB_bit]
  interval_cases i <;> simp

@[simp] theorem Laws.field13_encodeE (f : BitVec 13) : field13 (encodeE f) = f := by
  refine BitVec.eq_of_getLsbD_eq fun i hi => ?_
  unfold field13
  rw [BitVec.getLsbD_extractLsb', Laws.encodeE_bit]
  interval_cases i <;> simp

/-- A word of format B is in the group of two major opcodes that the branches share. -/
theorem Laws.fieldMajor_encodeB (c : BitVec 4) (f : BitVec 8) :
    fieldMajor (encodeB c f) = 0b10110#5 ∨ fieldMajor (encodeB c f) = 0b10111#5 := by
  have h : fieldMajor (encodeB c f) = 0b1011#4 ++ c.extractLsb' 3 1 := by
    refine BitVec.eq_of_getLsbD_eq fun i hi => ?_
    unfold fieldMajor
    erw [BitVec.getLsbD_extractLsb', Laws.encodeB_bit, BitVec.getLsbD_append]
    interval_cases i <;> simp
  rw [h]; clear h
  revert c
  decide

/-- A word of format E is in the group of four major opcodes of EXTI. -/
theorem Laws.fieldMajor_encodeE (f : BitVec 13) :
    fieldMajor (encodeE f) = 0b11000#5 ∨ fieldMajor (encodeE f) = 0b11001#5 ∨
      fieldMajor (encodeE f) = 0b11010#5 ∨ fieldMajor (encodeE f) = 0b11011#5 := by
  have h : fieldMajor (encodeE f) = 0b110#3 ++ f.extractLsb' 11 2 := by
    refine BitVec.eq_of_getLsbD_eq fun i hi => ?_
    unfold fieldMajor
    erw [BitVec.getLsbD_extractLsb', Laws.encodeE_bit, BitVec.getLsbD_append]
    interval_cases i <;> simp
  rw [h]; clear h
  generalize f.extractLsb' 11 2 = x
  revert x
  decide

end Sys2Proof
end

