-- ==== Sys2Proof/Laws/Values.lean ====
section
/-! SUPPORT. The operations in whole numbers: each operand form and each ALU result, as the machine computes it in bits, is the
one Safety.lean says in numbers. -/

namespace Sys2Proof.Machine

/-! ## Operands -/

/-- The long form is `ext13 * 8 + low`. -/
theorem longImm_eq_longValue (s : State) (l : BitVec 3) : s.longImm l = longValue s l.toNat := by
  unfold State.longImm longValue
  congr 1; funext h
  apply BitVec.eq_of_toNat_eq
  have e : (h ++ l).toNat = h.toNat * 8 + l.toNat := by
    rw [BitVec.toNat_append, ← Nat.shiftLeft_add_eq_or_of_lt l.isLt, Nat.shiftLeft_eq]
  have := h.isLt; have := l.isLt
  rw [BitVec.toNat_ofNat]
  exact e.trans (by omega)

/-- The arithmetic and logic immediate is the table of R14, or the long form; entry 3 stops where it was not supplied. -/
theorem immAl_eq_operandAl (s : State) (imm : BitVec 3) :
    s.immAl imm = match operandAl s imm with
      | some v => .ok v
      | none => .error .immAl3Unset := by
  unfold State.immAl operandAl
  rw [longImm_eq_longValue]
  by_cases h1 : s.hasExt13 = true
  · simp only [h1, if_true]
  · simp only [h1]
    have : imm = 0 ∨ imm = 1 ∨ imm = 2 ∨ imm = 3 ∨ imm = 4 ∨ imm = 5 ∨ imm = 6 ∨ imm = 7 := by revert imm; decide
    rcases this with h|h|h|h|h|h|h|h <;> subst h <;> first | rfl | (cases s.platform.immAl3 <;> rfl)

/-- The operand of an arithmetic or logic immediate is missing in one case only (R303). -/
theorem operandAl_none {s : State} {imm : BitVec 3} :
    operandAl s imm = none ↔ imm = 3#3 ∧ s.hasExt13 = false ∧ s.platform.immAl3 = none := by
  unfold operandAl
  cases s.hasExt13 <;> by_cases h : imm = 3#3 <;> simp [h]

/-- What the bus answers is the next supplied answer, or the oracle's. -/
theorem extAnswer_eq (s : State) (a : Val Word) : s.extAnswer a = a.map (busAnswer s) := by
  unfold State.extAnswer
  congr 1; funext x
  unfold State.busWord busAnswer
  cases s.busAnswers <;> rfl

/-- The shift immediate is the table of R15, or the long form. -/
theorem immSr_eq_operandSr (s : State) (imm : BitVec 3) : s.immSr imm = operandSr s imm := by
  unfold State.immSr operandSr
  rw [longImm_eq_longValue]
  split_ifs with h1 h2
  · rfl
  · subst h2; rfl
  · congr 1
    revert h2; revert imm; decide

/-- The bits above bit 2 of a 5-bit field are zero exactly below 8. -/
theorem high5_zero_iff (f : BitVec 5) : f.extractLsb' 3 2 = 0#2 ↔ f.toNat < 8 := by revert f; decide

/-- The bits above bit 2 of an 8-bit field are zero exactly below 8. -/
theorem high8_zero_iff (f : BitVec 8) : f.extractLsb' 3 5 = 0#5 ↔ f.toNat < 8 := by revert f; decide

/-- A legal 5-bit field gives its operand. -/
theorem imm5_of_legal {s : State} {f : BitVec 5} (h : FieldLegal s f) : s.imm5 f = .ok (operandField s f) := by
  unfold State.imm5 operandField
  rw [longImm_eq_longValue]
  split_ifs with h1 h2
  · congr 2
  · exact absurd ((high5_zero_iff f).2 (h h1)) h2
  · rfl

/-- A legal 8-bit field gives its operand. -/
theorem imm8_of_legal {s : State} {f : BitVec 8} (h : FieldLegal s f) : s.imm8 f = .ok (operandField s f) := by
  unfold State.imm8 operandField
  rw [longImm_eq_longValue]
  split_ifs with h1 h2
  · congr 2
  · exact absurd ((high8_zero_iff f).2 (h h1)) h2
  · rfl

/-- A 5-bit field that is not legal stops the machine. -/
theorem imm5_of_illegal {s : State} {f : BitVec 5} (h : s.hasExt13 = true) (h2 : 8 ≤ f.toNat) :
    s.imm5 f = .error .longFormFieldBits := by
  unfold State.imm5; simp [h, high5_zero_iff]; omega

/-- An 8-bit field that is not legal stops the machine. -/
theorem imm8_of_illegal {s : State} {f : BitVec 8} (h : s.hasExt13 = true) (h2 : 8 ≤ f.toNat) :
    s.imm8 f = .error .longFormFieldBits := by
  unfold State.imm8; simp [h, high8_zero_iff]; omega

/-- A field is legal, or the machine is in a long form and the field is 8 or more. -/
theorem fieldLegal_or {n} (s : State) (f : BitVec n) : FieldLegal s f ∨ (s.hasExt13 = true ∧ 8 ≤ f.toNat) := by
  unfold FieldLegal
  by_cases h : s.hasExt13 = true <;> simp [h]; omega

/-- What a 5-bit field answers is its operand. -/
theorem operandField_of_imm5 {s : State} {f : BitVec 5} {o} (h : s.imm5 f = .ok o) : o = operandField s f := by
  rcases fieldLegal_or s f with h1 | ⟨h1, h2⟩
  · rw [imm5_of_legal h1] at h; exact (Except.ok.inj h).symm
  · rw [imm5_of_illegal h1 h2] at h; cases h

/-- What an 8-bit field answers is its operand. -/
theorem operandField_of_imm8 {s : State} {f : BitVec 8} {o} (h : s.imm8 f = .ok o) : o = operandField s f := by
  rcases fieldLegal_or s f with h1 | ⟨h1, h2⟩
  · rw [imm8_of_legal h1] at h; exact (Except.ok.inj h).symm
  · rw [imm8_of_illegal h1 h2] at h; cases h

/-- The low three bits of a word are zero exactly at a multiple of 8 (R200 (c)). -/
theorem low3_zero_iff (v : Word) : v.extractLsb' 0 3 = 0#3 ↔ v.toNat % 8 = 0 := by
  rw [← BitVec.toNat_inj]; simp

/-! ## Results -/

/-- The 17-bit sum is the sum in whole numbers. -/
theorem sum17_toNat (a b : Word) (c : Bool) : (sum17 a b c).toNat = a.toNat + b.toNat + c.toNat := by
  unfold sum17
  have := a.isLt; have := b.isLt
  cases c <;> simp [BitVec.toNat_add] <;> omega

/-- Bit 15 of a word says whether it is 32,768 or more. -/
theorem getLsbD_15_eq (a : Word) : a.getLsbD 15 = decide (32768 ≤ a.toNat) := by
  have : a.getLsbD 15 = a.msb := by simp [BitVec.msb, BitVec.getMsbD]
  rw [this, BitVec.msb_eq_decide]

/-- Bit 16 of a 17-bit sum says whether it is 65,536 or more. -/
theorem getLsbD_16_of_sum (r : BitVec 17) : r.getLsbD 16 = decide (65536 ≤ r.toNat) := by
  have : r.getLsbD 16 = r.msb := by simp [BitVec.msb, BitVec.getMsbD]
  rw [this, BitVec.msb_eq_decide]

/-- Bit 15 of a 17-bit sum is that of its low word. -/
theorem getLsbD_15_of_sum (r : BitVec 17) : r.getLsbD 15 = decide (32768 ≤ r.toNat % 65536) := by
  have : r.getLsbD 15 = (r.setWidth 16).getLsbD 15 := by simp
  rw [this, getLsbD_15_eq]; simp

/-- The signed reading of a word. -/
theorem toInt_word (a : Word) : a.toInt = if a.toNat < 32768 then (a.toNat : Int) else a.toNat - 65536 := by
  rw [BitVec.toInt_eq_toNat_cond]; split_ifs <;> omega

/-- A result and its flags from a 17-bit sum. -/
theorem arithResult_eq (r : BitVec 17) (v : Bool) : arithResult r v =
    { value := .known (BitVec.ofNat 16 r.toNat)
      flags := flagsOf (BitVec.ofNat 16 r.toNat) (decide (65536 ≤ r.toNat)) v } := by
  unfold arithResult flagsOf
  have hw : r.setWidth 16 = BitVec.ofNat 16 r.toNat := by apply BitVec.eq_of_toNat_eq; simp
  rw [getLsbD_16_of_sum, getLsbD_15_of_sum, hw]
  simp only [AluResult.mk.injEq, Flags.mk.injEq, Val.known.injEq, true_and, and_true]
  constructor
  · rw [Bool.eq_iff_iff]; simp [← BitVec.toNat_inj]
  · simp

/-- Addition in bits is addition in whole numbers (R151). -/
theorem arithOf_addResult (a b : Val Word) (c : Val Bool) : arithOf addResult a b c = sumOf a b c := by
  cases a <;> cases b <;> cases c <;> try rfl
  rename_i a b c
  show addResult a b c = _
  unfold addResult sumOf
  simp only [arithResult_eq, sum17_toNat]
  congr 2
  rw [getLsbD_15_eq, getLsbD_15_eq, getLsbD_15_of_sum, sum17_toNat, outsideSigned, toInt_word, toInt_word]
  have := a.isLt; have := b.isLt
  cases c <;> simp only [Bool.toNat_false, Bool.toNat_true] <;> rw [Bool.eq_iff_iff] <;> simp <;> split_ifs <;> omega

/-- Subtraction in bits is subtraction in whole numbers (R151). -/
theorem arithOf_subResult (a b : Val Word) (c : Val Bool) : arithOf subResult a b c = differenceOf a b c := by
  cases a <;> cases b <;> cases c <;> try rfl
  rename_i a b c
  show subResult a b c = _
  unfold subResult differenceOf
  have ha := a.isLt; have hb := b.isLt
  have hn : (~~~b).toNat = 65535 - b.toNat := by simp
  have hw : BitVec.ofNat 16 (a.toNat + (65535 - b.toNat) + c.toNat) = BitVec.ofInt 16 (a.toNat - b.toNat - (1 - c.toNat)) := by
    apply BitVec.eq_of_toNat_eq
    rw [BitVec.toNat_ofInt, BitVec.toNat_ofNat]
    cases c <;> simp <;> omega
  simp only [arithResult_eq, sum17_toNat, hn, hw]
  congr 2
  · cases c <;> simp <;> omega
  rw [getLsbD_15_eq, getLsbD_15_eq, getLsbD_15_of_sum, sum17_toNat, outsideSigned, toInt_word, toInt_word, hn]
  obtain ⟨nb, hnb⟩ : ∃ nb, nb = 65535 - b.toNat := ⟨_, rfl⟩
  rw [← hnb]
  by_cases h1 : 32768 ≤ a.toNat <;> by_cases h2 : 32768 ≤ b.toNat <;>
    simp only [h1, h2, decide_true, decide_false, Bool.not_true, Bool.not_false, beq_self_eq_true, Bool.true_and] <;>
    cases c <;> simp <;> (try split_ifs) <;> first | omega | (rw [Bool.eq_iff_iff]; simp; omega)

/-- The result of a logic, shift or rotate operation. -/
theorem logicResult_eq (v : Val Word) : logicResult v = wordResultOf v := by
  unfold logicResult wordResultOf
  congr 2
  · cases v
    · simp; rw [Bool.eq_iff_iff]; simp [← BitVec.toNat_inj]
    · rfl
  · cases v
    · exact congrArg Val.known (getLsbD_15_eq _)
    · rfl

/-- A left shift multiplies (R171). -/
theorem shiftLeft_eq (x : Word) (n : Nat) : shiftLeft x n = shiftedLeft x n := by
  apply BitVec.eq_of_toNat_eq; simp [shiftLeft, shiftedLeft, Nat.shiftLeft_eq]

/-- A logical right shift divides the unsigned reading (R173). -/
theorem shiftRightLogical_eq (x : Word) (n : Nat) : shiftRightLogical x n = shiftedRight x n := by
  apply BitVec.eq_of_toNat_eq; simp [shiftRightLogical, shiftedRight, Nat.shiftRight_eq_div_pow]
  rw [Nat.mod_eq_of_lt]; exact lt_of_le_of_lt (Nat.div_le_self _ _) x.isLt

/-- An arithmetic right shift divides the signed reading (R175). -/
theorem shiftRightArith_eq (x : Word) (n : Nat) : shiftRightArith x n = shiftedRightSigned x n := by
  unfold shiftRightArith shiftedRightSigned
  rw [Int.fdiv_eq_ediv_of_nonneg _ (by positivity), BitVec.sshiftRight, Int.shiftRight_eq_div_pow]
  norm_cast

/-- A rotate by at most 15 (R177). -/
theorem rotateLeft_eq (x : Word) (n : Nat) (h : n ≤ 15) : rotateLeft x n = rotatedLeft x n := by
  apply BitVec.eq_of_toNat_eq
  unfold rotateLeft rotatedLeft
  have hx := x.isLt
  rw [BitVec.toNat_or, BitVec.toNat_shiftLeft, BitVec.toNat_ushiftRight,
    Nat.shiftLeft_eq, Nat.shiftRight_eq_div_pow, BitVec.toNat_ofNat]
  have hd : x.toNat * 2^n / 65536 = x.toNat / 2^(16-n) := by
    have : 65536 = 2^(16-n) * 2^n := by rw [← pow_add, show 16 - n + n = 16 by omega]; rfl
    rw [this, Nat.mul_div_mul_right _ _ (by positivity)]
  have hlt : x.toNat / 2^(16-n) < 2^n := by
    rw [Nat.div_lt_iff_lt_mul (by positivity), ← pow_add, show n + (16-n) = 16 by omega]; exact hx
  have hm : x.toNat * 2^n % 2^16 = 2^n * (x.toNat % 2^(16-n)) := by
    have : 2^16 = 2^(16-n) * 2^n := by rw [← pow_add]; congr 1; omega
    rw [this, Nat.mul_mod_mul_right, mul_comm]
  rw [hd, hm, ← Nat.two_pow_add_eq_or_of_lt hlt, show (65536:ℕ) = 2^16 by norm_num, hm]
  symm; apply Nat.mod_eq_of_lt
  have h3 : x.toNat % 2^(16-n) < 2^(16-n) := Nat.mod_lt _ (by positivity)
  have : 2^16 = 2^n * 2^(16-n) := by rw [← pow_add]; congr 1; omega
  rw [this]
  calc _ < 2^n * (x.toNat % 2^(16-n)) + 2^n := by omega
    _ = 2^n * (x.toNat % 2^(16-n) + 1) := by ring
    _ ≤ _ := Nat.mul_le_mul_left _ h3

/-! ## Ends of instructions -/

/-- The end of an ALU instruction. -/
theorem writeAlu_aluPost (s : State) (rd : BitVec 3) (r : AluResult) : AluPost s (s.writeAlu rd r) rd r := by
  refine ⟨by simp, rfl, rfl, ⟨rfl, rfl, rfl, rfl, rfl⟩, ⟨rfl, rfl⟩, ?_⟩
  intro b hb
  simp [Memory.read_write_other _ _ hb]

/-- The end of an instruction that writes one register. -/
theorem setReg_advance_regPost (s : State) (rd : BitVec 3) (v : Val Word) :
    RegPost s (s.setReg rd v).advance rd v (s.pc + 1#16) :=
  ⟨by simp, rfl, rfl, ⟨rfl, rfl, rfl, rfl, rfl⟩, ⟨rfl, rfl⟩, fun b hb => by simp [Memory.read_write_other _ _ hb]⟩

/-- The end of a store at a defined address. -/
theorem storeReg_storePost (s : State) (rs : BitVec 3) (a : Word) : StorePost s (s.storeReg rs (.known a)) a (s.reg rs) :=
  ⟨by simp, rfl, rfl, ⟨rfl, rfl, rfl, rfl, rfl⟩, ⟨rfl, rfl⟩, fun b hb => by simp [Memory.read_write_other _ _ hb]⟩

/-- The end of a jump to a defined address. -/
theorem jumpTo_jumpPost (s : State) (a : Word) : JumpPost s (s.jumpTo (.known a)) a :=
  ⟨rfl, rfl, ⟨rfl, rfl, rfl, rfl, rfl⟩, ⟨rfl, rfl⟩, fun _ => rfl⟩

/-- The end of a jump that writes one register. -/
theorem setReg_jumpTo_regPost (s : State) (rd : BitVec 3) (v : Val Word) (a : Word) :
    RegPost s ((s.setReg rd v).jumpTo (.known a)) rd v a :=
  ⟨by simp, rfl, rfl, ⟨rfl, rfl, rfl, rfl, rfl⟩, ⟨rfl, rfl⟩, fun b hb => Memory.read_write_other _ _ hb⟩

end Sys2Proof.Machine
end

