-- ==== Sys2Proof/Laws/Exec.lean ====
section
/-! SUPPORT. Everything an instruction that goes on can do, said once: every invariant and every frame follows from it. -/

namespace Sys2Proof.Machine

/-- The classes of an instruction (Safety.lean), in the order: changes W, uses the bus, is EXTI, assigns PC. -/
def Classes (i : Instr) (w b e p : Bool) : Prop :=
  i.movesWindow = w ∧ i.usesBus = b ∧ i.isExti = e ∧ i.assignsPc = p

/-- What instruction `i` did, from `s` to `t`. -/
inductive ExecEffect (i : Instr) (s t : State) : Prop
  /-- It wrote Rd and the flags; `x` is the amount a shift tested. -/
  | alu (x : Val Word) (rd : BitVec 3) (r : AluResult) (hd : i.dest = some rd) (hf : i.setsFlags = true)
      (hl : i.isLogicOrShift = true → ∃ v, r = logicResult v) (hc : Classes i false false false false)
      (e : t = (s.picked x).writeAlu rd r)
  /-- It wrote the flags alone. -/
  | compare (r : AluResult) (hf : i.setsFlags = true) (hl : i.isLogicOrShift = false)
      (hc : Classes i false false false false) (e : t = s.writeFlags r)
  /-- It wrote Rd alone. -/
  | register (rd : BitVec 3) (v : Val Word) (hd : i.dest = some rd) (hl : i.isLogicOrShift = false)
      (hc : Classes i false false false false) (e : t = (s.setReg rd v).advance)
  /-- It is EXTI. -/
  | exti (imm : BitVec 13) (h : i = .exti imm) (e : t = { s with ext13 := .known imm, hasExt13 := true, pc := s.nextPc })
  /-- It is NOP. -/
  | nop (h : i = .nop) (e : t = s.advance)
  /-- It changed W by, or to, a multiple of 8, and may have written the old W to Rd of the new window. -/
  | window (x : Val Word) (w : Word) (hx : (s.pick x).toNat % 8 = 0) (hw : w = s.pick x ∨ w = s.w + s.pick x)
      (hl : i.isLogicOrShift = false) (hc : Classes i true false false false)
      (e : t = { s.picked x with w := w }.advance ∨
        ∃ rd, i.dest = some rd ∧ t = ({ s.picked x with w := w }.setReg rd (.known s.w)).advance)
  /-- It is ST. -/
  | st (rs ra : BitVec 3) (off : BitVec 5) (o : Val Word) (h : i = .st rs ra off) (ho : s.imm5 off = .ok o)
      (e : t = s.storeReg rs (s.regPlus ra o))
  /-- It is STR. -/
  | str (rs ra : BitVec 3) (off : BitVec 5) (o : Val Word) (h : i = .str rs ra off) (ho : s.imm5 off = .ok o)
      (e : t = s.storeReg rs (s.pcPlusReg ra o))
  /-- It loaded from the bus. -/
  | busLoad (rd : BitVec 3) (a : Val Word) (hd : i.dest = some rd) (hl : i.isLogicOrShift = false)
      (hc : Classes i false true false false) (e : t = s.busLoad rd a)
  /-- It stored to the bus. -/
  | busStore (rs : BitVec 3) (a : Val Word) (hl : i.isLogicOrShift = false) (hc : Classes i false true false false)
      (e : t = s.busStore rs a)
  /-- It assigned PC alone; `x` is the condition a branch tested. -/
  | jump (x : Val Bool) (a : Val Word) (hl : i.isLogicOrShift = false) (hc : Classes i false false false true)
      (e : t = (s.picked x).jumpTo a)
  /-- It wrote Rd and assigned PC. -/
  | link (rd : BitVec 3) (v a : Val Word) (hd : i.dest = some rd) (hl : i.isLogicOrShift = false)
      (hc : Classes i false false false true) (e : t = (s.setReg rd v).jumpTo a)

/-- An instruction that goes on did one of these things. -/
theorem exec_effect {i : Instr} {s t : State} (h : exec i s = .next t) : ExecEffect i s t := by
  cases i
  case add | adc | sub | sbc =>
    cases h
    exact .alu (.known 0#16) _ _ rfl rfl (fun e => by cases e) ⟨rfl, rfl, rfl, rfl⟩ rfl
  case addi | adci | subi | sbci =>
    obtain ⟨o, -, h⟩ := orFault_next.1 h
    cases h
    exact .alu (.known 0#16) _ _ rfl rfl (fun e => by cases e) ⟨rfl, rfl, rfl, rfl⟩ rfl
  case cmp =>
    cases h
    exact .compare _ rfl rfl ⟨rfl, rfl, rfl, rfl⟩ rfl
  case cmpi =>
    obtain ⟨o, -, h⟩ := orFault_next.1 h
    cases h
    exact .compare _ rfl rfl ⟨rfl, rfl, rfl, rfl⟩ rfl
  case and | or | xor =>
    cases h
    exact .alu (.known 0#16) _ _ rfl rfl (fun _ => ⟨_, rfl⟩) ⟨rfl, rfl, rfl, rfl⟩ rfl
  case andi | ori | xori =>
    obtain ⟨o, -, h⟩ := orFault_next.1 h
    cases h
    exact .alu (.known 0#16) _ _ rfl rfl (fun _ => ⟨_, rfl⟩) ⟨rfl, rfl, rfl, rfl⟩ rfl
  case sll | slli | srl | srli | sra | srai | rol | roli =>
    obtain ⟨-, rfl⟩ := State.shift_next.1 h
    exact .alu _ _ _ rfl rfl (fun _ => ⟨_, rfl⟩) ⟨rfl, rfl, rfl, rfl⟩ rfl
  case movi | movr | ld | ldr =>
    obtain ⟨o, -, h⟩ := orFault_next.1 h
    cases h
    exact .register _ _ rfl rfl ⟨rfl, rfl, rfl, rfl⟩ rfl
  case exti =>
    cases h
    exact .exti _ rfl rfl
  case nop =>
    cases h
    exact .nop rfl rfl
  case adjw =>
    obtain ⟨o, -, h⟩ := orFault_next.1 h
    obtain ⟨h1, h2⟩ := State.moveWindow_next.1 h
    exact .window o _ ((low3_zero_iff _).1 h1) (.inr rfl) rfl ⟨rfl, rfl, rfl, rfl⟩ (.inl h2)
  case ldw =>
    obtain ⟨o, -, h⟩ := orFault_next.1 h
    obtain ⟨h1, h2⟩ := State.moveWindow_next.1 h
    exact .window o _ ((low3_zero_iff _).1 h1) (.inr rfl) rfl ⟨rfl, rfl, rfl, rfl⟩ (.inr ⟨_, rfl, h2⟩)
  case stw =>
    obtain ⟨h1, h2⟩ := State.moveWindow_next.1 h
    exact .window _ _ ((low3_zero_iff _).1 h1) (.inl rfl) rfl ⟨rfl, rfl, rfl, rfl⟩ (.inl h2)
  case xchw =>
    simp only [exec, execXchw] at h
    obtain ⟨h1, h2⟩ := State.moveWindow_next.1 h
    exact .window _ _ ((low3_zero_iff _).1 h1) (.inl rfl) rfl ⟨rfl, rfl, rfl, rfl⟩ (.inr ⟨_, rfl, h2⟩)
  case st =>
    obtain ⟨o, ho, h⟩ := orFault_next.1 h
    cases h
    exact .st _ _ _ _ rfl ho rfl
  case str =>
    obtain ⟨o, ho, h⟩ := orFault_next.1 h
    cases h
    exact .str _ _ _ _ rfl ho rfl
  case ldx | ldxa =>
    obtain ⟨o, -, h⟩ := orFault_next.1 h
    cases h
    exact .busLoad _ _ rfl rfl ⟨rfl, rfl, rfl, rfl⟩ rfl
  case stx | stxa =>
    obtain ⟨o, -, h⟩ := orFault_next.1 h
    cases h
    exact .busStore _ _ rfl ⟨rfl, rfl, rfl, rfl⟩ rfl
  case j | jr | jst | jvt =>
    obtain ⟨o, -, h⟩ := orFault_next.1 h
    cases h
    exact .jump (.known false) _ rfl ⟨rfl, rfl, rfl, rfl⟩ rfl
  case jal =>
    obtain ⟨o, -, h⟩ := orFault_next.1 h
    cases h
    exact .link _ _ _ rfl rfl ⟨rfl, rfl, rfl, rfl⟩ rfl
  case jral =>
    cases h
    exact .link _ _ _ rfl rfl ⟨rfl, rfl, rfl, rfl⟩ rfl
  all_goals
    obtain ⟨o, -, h⟩ := State.branch_next.1 h
    exact .jump _ _ rfl ⟨rfl, rfl, rfl, rfl⟩ h

end Sys2Proof.Machine
end

