-- ==== Sys2Proof/Laws/PerInstr.lean ====
section
/-! SUPPORT. RowMatch, one lemma per instruction: the word the encoder writes is a word of the instruction's own row of R120,
whatever the operands. -/

namespace Sys2Proof

/-- The encoding of `i` matches the match and mask columns of its row. -/
def Laws.RowMatch.Statement (i : Instr) : Prop := i.row.matches (encode i) = true

/-! ## What a mask leaves of each format -/

theorem Laws.encodeR3_mask_F818 (m : BitVec 5) (d a : BitVec 3) (t : BitVec 2) (b : BitVec 3) :
    encodeR3 m d a t b &&& 0xF818#16 = encodeR3 m 0#3 0#3 t 0#3 := by
  refine BitVec.eq_of_getLsbD_eq fun i hi => ?_
  rw [BitVec.getLsbD_and, Laws.encodeR3_bit, Laws.encodeR3_bit]
  interval_cases i <;> simp

theorem Laws.encodeR3_mask_FF18 (m : BitVec 5) (d a : BitVec 3) (t : BitVec 2) (b : BitVec 3) :
    encodeR3 m d a t b &&& 0xFF18#16 = encodeR3 m d 0#3 t 0#3 := by
  refine BitVec.eq_of_getLsbD_eq fun i hi => ?_
  rw [BitVec.getLsbD_and, Laws.encodeR3_bit, Laws.encodeR3_bit]
  interval_cases i <;> simp

theorem Laws.encodeR3_mask_FFF8 (m : BitVec 5) (d a : BitVec 3) (t : BitVec 2) (b : BitVec 3) :
    encodeR3 m d a t b &&& 0xFFF8#16 = encodeR3 m d a t 0#3 := by
  refine BitVec.eq_of_getLsbD_eq fun i hi => ?_
  rw [BitVec.getLsbD_and, Laws.encodeR3_bit, Laws.encodeR3_bit]
  interval_cases i <;> simp

theorem Laws.encodeR3_mask_F8F8 (m : BitVec 5) (d a : BitVec 3) (t : BitVec 2) (b : BitVec 3) :
    encodeR3 m d a t b &&& 0xF8F8#16 = encodeR3 m 0#3 a t 0#3 := by
  refine BitVec.eq_of_getLsbD_eq fun i hi => ?_
  rw [BitVec.getLsbD_and, Laws.encodeR3_bit, Laws.encodeR3_bit]
  interval_cases i <;> simp

theorem Laws.encodeM5_mask_F800 (m : BitVec 5) (d a : BitVec 3) (f : BitVec 5) :
    encodeM5 m d a f &&& 0xF800#16 = encodeM5 m 0#3 0#3 0#5 := by
  refine BitVec.eq_of_getLsbD_eq fun i hi => ?_
  rw [BitVec.getLsbD_and, Laws.encodeM5_bit, Laws.encodeM5_bit]
  interval_cases i <;> simp

theorem Laws.encodeM5_mask_F8E0 (m : BitVec 5) (d a : BitVec 3) (f : BitVec 5) :
    encodeM5 m d a f &&& 0xF8E0#16 = encodeM5 m 0#3 a 0#5 := by
  refine BitVec.eq_of_getLsbD_eq fun i hi => ?_
  rw [BitVec.getLsbD_and, Laws.encodeM5_bit, Laws.encodeM5_bit]
  interval_cases i <;> simp

theorem Laws.encodeM5_mask_FFE0 (m : BitVec 5) (d a : BitVec 3) (f : BitVec 5) :
    encodeM5 m d a f &&& 0xFFE0#16 = encodeM5 m d a 0#5 := by
  refine BitVec.eq_of_getLsbD_eq fun i hi => ?_
  rw [BitVec.getLsbD_and, Laws.encodeM5_bit, Laws.encodeM5_bit]
  interval_cases i <;> simp

theorem Laws.encodeI8_mask_F800 (m : BitVec 5) (d : BitVec 3) (f : BitVec 8) :
    encodeI8 m d f &&& 0xF800#16 = encodeI8 m 0#3 0#8 := by
  refine BitVec.eq_of_getLsbD_eq fun i hi => ?_
  rw [BitVec.getLsbD_and, Laws.encodeI8_bit, Laws.encodeI8_bit]
  interval_cases i <;> simp

theorem Laws.encodeB_mask_FF00 (c : BitVec 4) (f : BitVec 8) :
    encodeB c f &&& 0xFF00#16 = encodeB c 0#8 := by
  refine BitVec.eq_of_getLsbD_eq fun i hi => ?_
  rw [BitVec.getLsbD_and, Laws.encodeB_bit, Laws.encodeB_bit]
  interval_cases i <;> simp

theorem Laws.encodeE_mask_E000 (f : BitVec 13) :
    encodeE f &&& 0xE000#16 = encodeE 0#13 := by
  refine BitVec.eq_of_getLsbD_eq fun i hi => ?_
  rw [BitVec.getLsbD_and, Laws.encodeE_bit, Laws.encodeE_bit]
  interval_cases i <;> simp

/-! ## The family -/

theorem Laws.RowMatch.add (rd ra rb : BitVec 3) : Laws.RowMatch.Statement (.add rd ra rb) := by
  unfold Laws.RowMatch.Statement OpcodeRow.matches Instr.row encode
  rw [Laws.encodeR3_mask_F818]; rfl

theorem Laws.RowMatch.addi (rd ra : BitVec 3) (imm : BitVec 3) : Laws.RowMatch.Statement (.addi rd ra imm) := by
  unfold Laws.RowMatch.Statement OpcodeRow.matches Instr.row encode
  rw [Laws.encodeR3_mask_F818]; rfl

theorem Laws.RowMatch.adc (rd ra rb : BitVec 3) : Laws.RowMatch.Statement (.adc rd ra rb) := by
  unfold Laws.RowMatch.Statement OpcodeRow.matches Instr.row encode
  rw [Laws.encodeR3_mask_F818]; rfl

theorem Laws.RowMatch.adci (rd ra : BitVec 3) (imm : BitVec 3) : Laws.RowMatch.Statement (.adci rd ra imm) := by
  unfold Laws.RowMatch.Statement OpcodeRow.matches Instr.row encode
  rw [Laws.encodeR3_mask_F818]; rfl

theorem Laws.RowMatch.sub (rd ra rb : BitVec 3) : Laws.RowMatch.Statement (.sub rd ra rb) := by
  unfold Laws.RowMatch.Statement OpcodeRow.matches Instr.row encode
  rw [Laws.encodeR3_mask_F818]; rfl

theorem Laws.RowMatch.subi (rd ra : BitVec 3) (imm : BitVec 3) : Laws.RowMatch.Statement (.subi rd ra imm) := by
  unfold Laws.RowMatch.Statement OpcodeRow.matches Instr.row encode
  rw [Laws.encodeR3_mask_F818]; rfl

theorem Laws.RowMatch.sbc (rd ra rb : BitVec 3) : Laws.RowMatch.Statement (.sbc rd ra rb) := by
  unfold Laws.RowMatch.Statement OpcodeRow.matches Instr.row encode
  rw [Laws.encodeR3_mask_F818]; rfl

theorem Laws.RowMatch.sbci (rd ra : BitVec 3) (imm : BitVec 3) : Laws.RowMatch.Statement (.sbci rd ra imm) := by
  unfold Laws.RowMatch.Statement OpcodeRow.matches Instr.row encode
  rw [Laws.encodeR3_mask_F818]; rfl

theorem Laws.RowMatch.cmp (ra rb : BitVec 3) : Laws.RowMatch.Statement (.cmp ra rb) := by
  unfold Laws.RowMatch.Statement OpcodeRow.matches Instr.row encode
  rw [Laws.encodeR3_mask_FF18]; rfl

theorem Laws.RowMatch.cmpi (ra : BitVec 3) (imm : BitVec 3) : Laws.RowMatch.Statement (.cmpi ra imm) := by
  unfold Laws.RowMatch.Statement OpcodeRow.matches Instr.row encode
  rw [Laws.encodeR3_mask_FF18]; rfl

theorem Laws.RowMatch.and (rd ra rb : BitVec 3) : Laws.RowMatch.Statement (.and rd ra rb) := by
  unfold Laws.RowMatch.Statement OpcodeRow.matches Instr.row encode
  rw [Laws.encodeR3_mask_F818]; rfl

theorem Laws.RowMatch.andi (rd ra : BitVec 3) (imm : BitVec 3) : Laws.RowMatch.Statement (.andi rd ra imm) := by
  unfold Laws.RowMatch.Statement OpcodeRow.matches Instr.row encode
  rw [Laws.encodeR3_mask_F818]; rfl

theorem Laws.RowMatch.or (rd ra rb : BitVec 3) : Laws.RowMatch.Statement (.or rd ra rb) := by
  unfold Laws.RowMatch.Statement OpcodeRow.matches Instr.row encode
  rw [Laws.encodeR3_mask_F818]; rfl

theorem Laws.RowMatch.ori (rd ra : BitVec 3) (imm : BitVec 3) : Laws.RowMatch.Statement (.ori rd ra imm) := by
  unfold Laws.RowMatch.Statement OpcodeRow.matches Instr.row encode
  rw [Laws.encodeR3_mask_F818]; rfl

theorem Laws.RowMatch.xor (rd ra rb : BitVec 3) : Laws.RowMatch.Statement (.xor rd ra rb) := by
  unfold Laws.RowMatch.Statement OpcodeRow.matches Instr.row encode
  rw [Laws.encodeR3_mask_F818]; rfl

theorem Laws.RowMatch.xori (rd ra : BitVec 3) (imm : BitVec 3) : Laws.RowMatch.Statement (.xori rd ra imm) := by
  unfold Laws.RowMatch.Statement OpcodeRow.matches Instr.row encode
  rw [Laws.encodeR3_mask_F818]; rfl

theorem Laws.RowMatch.sll (rd ra rb : BitVec 3) : Laws.RowMatch.Statement (.sll rd ra rb) := by
  unfold Laws.RowMatch.Statement OpcodeRow.matches Instr.row encode
  rw [Laws.encodeR3_mask_F818]; rfl

theorem Laws.RowMatch.slli (rd ra : BitVec 3) (imm : BitVec 3) : Laws.RowMatch.Statement (.slli rd ra imm) := by
  unfold Laws.RowMatch.Statement OpcodeRow.matches Instr.row encode
  rw [Laws.encodeR3_mask_F818]; rfl

theorem Laws.RowMatch.srl (rd ra rb : BitVec 3) : Laws.RowMatch.Statement (.srl rd ra rb) := by
  unfold Laws.RowMatch.Statement OpcodeRow.matches Instr.row encode
  rw [Laws.encodeR3_mask_F818]; rfl

theorem Laws.RowMatch.srli (rd ra : BitVec 3) (imm : BitVec 3) : Laws.RowMatch.Statement (.srli rd ra imm) := by
  unfold Laws.RowMatch.Statement OpcodeRow.matches Instr.row encode
  rw [Laws.encodeR3_mask_F818]; rfl

theorem Laws.RowMatch.sra (rd ra rb : BitVec 3) : Laws.RowMatch.Statement (.sra rd ra rb) := by
  unfold Laws.RowMatch.Statement OpcodeRow.matches Instr.row encode
  rw [Laws.encodeR3_mask_F818]; rfl

theorem Laws.RowMatch.srai (rd ra : BitVec 3) (imm : BitVec 3) : Laws.RowMatch.Statement (.srai rd ra imm) := by
  unfold Laws.RowMatch.Statement OpcodeRow.matches Instr.row encode
  rw [Laws.encodeR3_mask_F818]; rfl

theorem Laws.RowMatch.rol (rd ra rb : BitVec 3) : Laws.RowMatch.Statement (.rol rd ra rb) := by
  unfold Laws.RowMatch.Statement OpcodeRow.matches Instr.row encode
  rw [Laws.encodeR3_mask_F818]; rfl

theorem Laws.RowMatch.roli (rd ra : BitVec 3) (imm : BitVec 3) : Laws.RowMatch.Statement (.roli rd ra imm) := by
  unfold Laws.RowMatch.Statement OpcodeRow.matches Instr.row encode
  rw [Laws.encodeR3_mask_F818]; rfl

theorem Laws.RowMatch.movi (rd : BitVec 3) (imm : BitVec 8) : Laws.RowMatch.Statement (.movi rd imm) := by
  unfold Laws.RowMatch.Statement OpcodeRow.matches Instr.row encode
  rw [Laws.encodeI8_mask_F800]; rfl

theorem Laws.RowMatch.movr (rd : BitVec 3) (off : BitVec 8) : Laws.RowMatch.Statement (.movr rd off) := by
  unfold Laws.RowMatch.Statement OpcodeRow.matches Instr.row encode
  rw [Laws.encodeI8_mask_F800]; rfl

theorem Laws.RowMatch.exti (imm : BitVec 13) : Laws.RowMatch.Statement (.exti imm) := by
  unfold Laws.RowMatch.Statement OpcodeRow.matches Instr.row encode
  rw [Laws.encodeE_mask_E000]; rfl

theorem Laws.RowMatch.nop : Laws.RowMatch.Statement .nop := rfl

theorem Laws.RowMatch.adjw (imm : BitVec 5) : Laws.RowMatch.Statement (.adjw imm) := by
  unfold Laws.RowMatch.Statement OpcodeRow.matches Instr.row encode
  rw [Laws.encodeM5_mask_FFE0]; rfl

theorem Laws.RowMatch.ldw (rd : BitVec 3) (imm : BitVec 5) : Laws.RowMatch.Statement (.ldw rd imm) := by
  unfold Laws.RowMatch.Statement OpcodeRow.matches Instr.row encode
  rw [Laws.encodeM5_mask_F8E0]; rfl

theorem Laws.RowMatch.stw (rb : BitVec 3) : Laws.RowMatch.Statement (.stw rb) := by
  unfold Laws.RowMatch.Statement OpcodeRow.matches Instr.row encode
  rw [Laws.encodeR3_mask_FFF8]; rfl

theorem Laws.RowMatch.xchw (rd rb : BitVec 3) : Laws.RowMatch.Statement (.xchw rd rb) := by
  unfold Laws.RowMatch.Statement OpcodeRow.matches Instr.row encode
  rw [Laws.encodeR3_mask_F8F8]; rfl

theorem Laws.RowMatch.ld (rd ra : BitVec 3) (off : BitVec 5) : Laws.RowMatch.Statement (.ld rd ra off) := by
  unfold Laws.RowMatch.Statement OpcodeRow.matches Instr.row encode
  rw [Laws.encodeM5_mask_F800]; rfl

theorem Laws.RowMatch.ldr (rd ra : BitVec 3) (off : BitVec 5) : Laws.RowMatch.Statement (.ldr rd ra off) := by
  unfold Laws.RowMatch.Statement OpcodeRow.matches Instr.row encode
  rw [Laws.encodeM5_mask_F800]; rfl

theorem Laws.RowMatch.st (rs ra : BitVec 3) (off : BitVec 5) : Laws.RowMatch.Statement (.st rs ra off) := by
  unfold Laws.RowMatch.Statement OpcodeRow.matches Instr.row encode
  rw [Laws.encodeM5_mask_F800]; rfl

theorem Laws.RowMatch.str (rs ra : BitVec 3) (off : BitVec 5) : Laws.RowMatch.Statement (.str rs ra off) := by
  unfold Laws.RowMatch.Statement OpcodeRow.matches Instr.row encode
  rw [Laws.encodeM5_mask_F800]; rfl

theorem Laws.RowMatch.ldx (rd ra : BitVec 3) (off : BitVec 5) : Laws.RowMatch.Statement (.ldx rd ra off) := by
  unfold Laws.RowMatch.Statement OpcodeRow.matches Instr.row encode
  rw [Laws.encodeM5_mask_F800]; rfl

theorem Laws.RowMatch.ldxa (rd : BitVec 3) (off : BitVec 8) : Laws.RowMatch.Statement (.ldxa rd off) := by
  unfold Laws.RowMatch.Statement OpcodeRow.matches Instr.row encode
  rw [Laws.encodeI8_mask_F800]; rfl

theorem Laws.RowMatch.stx (rs ra : BitVec 3) (off : BitVec 5) : Laws.RowMatch.Statement (.stx rs ra off) := by
  unfold Laws.RowMatch.Statement OpcodeRow.matches Instr.row encode
  rw [Laws.encodeM5_mask_F800]; rfl

theorem Laws.RowMatch.stxa (rs : BitVec 3) (off : BitVec 8) : Laws.RowMatch.Statement (.stxa rs off) := by
  unfold Laws.RowMatch.Statement OpcodeRow.matches Instr.row encode
  rw [Laws.encodeI8_mask_F800]; rfl

theorem Laws.RowMatch.j (off : BitVec 8) : Laws.RowMatch.Statement (.j off) := by
  unfold Laws.RowMatch.Statement OpcodeRow.matches Instr.row encode
  rw [Laws.encodeB_mask_FF00]; rfl

theorem Laws.RowMatch.jal (rd : BitVec 3) (off : BitVec 8) : Laws.RowMatch.Statement (.jal rd off) := by
  unfold Laws.RowMatch.Statement OpcodeRow.matches Instr.row encode
  rw [Laws.encodeI8_mask_F800]; rfl

theorem Laws.RowMatch.jr (rs : BitVec 3) (off : BitVec 5) : Laws.RowMatch.Statement (.jr rs off) := by
  unfold Laws.RowMatch.Statement OpcodeRow.matches Instr.row encode
  rw [Laws.encodeM5_mask_F8E0]; rfl

theorem Laws.RowMatch.jral (rd rb : BitVec 3) : Laws.RowMatch.Statement (.jral rd rb) := by
  unfold Laws.RowMatch.Statement OpcodeRow.matches Instr.row encode
  rw [Laws.encodeR3_mask_F8F8]; rfl

theorem Laws.RowMatch.jst (rs : BitVec 3) (off : BitVec 5) : Laws.RowMatch.Statement (.jst rs off) := by
  unfold Laws.RowMatch.Statement OpcodeRow.matches Instr.row encode
  rw [Laws.encodeM5_mask_F8E0]; rfl

theorem Laws.RowMatch.jvt (rs : BitVec 3) (off : BitVec 5) : Laws.RowMatch.Statement (.jvt rs off) := by
  unfold Laws.RowMatch.Statement OpcodeRow.matches Instr.row encode
  rw [Laws.encodeM5_mask_F8E0]; rfl

theorem Laws.RowMatch.beq (off : BitVec 8) : Laws.RowMatch.Statement (.beq off) := by
  unfold Laws.RowMatch.Statement OpcodeRow.matches Instr.row encode
  rw [Laws.encodeB_mask_FF00]; rfl

theorem Laws.RowMatch.bgts (off : BitVec 8) : Laws.RowMatch.Statement (.bgts off) := by
  unfold Laws.RowMatch.Statement OpcodeRow.matches Instr.row encode
  rw [Laws.encodeB_mask_FF00]; rfl

theorem Laws.RowMatch.bgtu (off : BitVec 8) : Laws.RowMatch.Statement (.bgtu off) := by
  unfold Laws.RowMatch.Statement OpcodeRow.matches Instr.row encode
  rw [Laws.encodeB_mask_FF00]; rfl

theorem Laws.RowMatch.bges (off : BitVec 8) : Laws.RowMatch.Statement (.bges off) := by
  unfold Laws.RowMatch.Statement OpcodeRow.matches Instr.row encode
  rw [Laws.encodeB_mask_FF00]; rfl

theorem Laws.RowMatch.bgeu (off : BitVec 8) : Laws.RowMatch.Statement (.bgeu off) := by
  unfold Laws.RowMatch.Statement OpcodeRow.matches Instr.row encode
  rw [Laws.encodeB_mask_FF00]; rfl

theorem Laws.RowMatch.bles (off : BitVec 8) : Laws.RowMatch.Statement (.bles off) := by
  unfold Laws.RowMatch.Statement OpcodeRow.matches Instr.row encode
  rw [Laws.encodeB_mask_FF00]; rfl

theorem Laws.RowMatch.bleu (off : BitVec 8) : Laws.RowMatch.Statement (.bleu off) := by
  unfold Laws.RowMatch.Statement OpcodeRow.matches Instr.row encode
  rw [Laws.encodeB_mask_FF00]; rfl

theorem Laws.RowMatch.blts (off : BitVec 8) : Laws.RowMatch.Statement (.blts off) := by
  unfold Laws.RowMatch.Statement OpcodeRow.matches Instr.row encode
  rw [Laws.encodeB_mask_FF00]; rfl

theorem Laws.RowMatch.bltu (off : BitVec 8) : Laws.RowMatch.Statement (.bltu off) := by
  unfold Laws.RowMatch.Statement OpcodeRow.matches Instr.row encode
  rw [Laws.encodeB_mask_FF00]; rfl

theorem Laws.RowMatch.bne (off : BitVec 8) : Laws.RowMatch.Statement (.bne off) := by
  unfold Laws.RowMatch.Statement OpcodeRow.matches Instr.row encode
  rw [Laws.encodeB_mask_FF00]; rfl

theorem Laws.RowMatch.bz (off : BitVec 8) : Laws.RowMatch.Statement (.bz off) := by
  unfold Laws.RowMatch.Statement OpcodeRow.matches Instr.row encode
  rw [Laws.encodeB_mask_FF00]; rfl

theorem Laws.RowMatch.bnz (off : BitVec 8) : Laws.RowMatch.Statement (.bnz off) := by
  unfold Laws.RowMatch.Statement OpcodeRow.matches Instr.row encode
  rw [Laws.encodeB_mask_FF00]; rfl

theorem Laws.RowMatch.bs (off : BitVec 8) : Laws.RowMatch.Statement (.bs off) := by
  unfold Laws.RowMatch.Statement OpcodeRow.matches Instr.row encode
  rw [Laws.encodeB_mask_FF00]; rfl

theorem Laws.RowMatch.bns (off : BitVec 8) : Laws.RowMatch.Statement (.bns off) := by
  unfold Laws.RowMatch.Statement OpcodeRow.matches Instr.row encode
  rw [Laws.encodeB_mask_FF00]; rfl

theorem Laws.RowMatch.bc (off : BitVec 8) : Laws.RowMatch.Statement (.bc off) := by
  unfold Laws.RowMatch.Statement OpcodeRow.matches Instr.row encode
  rw [Laws.encodeB_mask_FF00]; rfl

theorem Laws.RowMatch.bnc (off : BitVec 8) : Laws.RowMatch.Statement (.bnc off) := by
  unfold Laws.RowMatch.Statement OpcodeRow.matches Instr.row encode
  rw [Laws.encodeB_mask_FF00]; rfl

theorem Laws.RowMatch.bv (off : BitVec 8) : Laws.RowMatch.Statement (.bv off) := by
  unfold Laws.RowMatch.Statement OpcodeRow.matches Instr.row encode
  rw [Laws.encodeB_mask_FF00]; rfl

theorem Laws.RowMatch.bnv (off : BitVec 8) : Laws.RowMatch.Statement (.bnv off) := by
  unfold Laws.RowMatch.Statement OpcodeRow.matches Instr.row encode
  rw [Laws.encodeB_mask_FF00]; rfl

theorem Laws.RowMatch.bz1 (off : BitVec 8) : Laws.RowMatch.Statement (.bz1 off) := by
  unfold Laws.RowMatch.Statement OpcodeRow.matches Instr.row encode
  rw [Laws.encodeB_mask_FF00]; rfl

theorem Laws.RowMatch.bz0 (off : BitVec 8) : Laws.RowMatch.Statement (.bz0 off) := by
  unfold Laws.RowMatch.Statement OpcodeRow.matches Instr.row encode
  rw [Laws.encodeB_mask_FF00]; rfl

theorem Laws.RowMatch.bs1 (off : BitVec 8) : Laws.RowMatch.Statement (.bs1 off) := by
  unfold Laws.RowMatch.Statement OpcodeRow.matches Instr.row encode
  rw [Laws.encodeB_mask_FF00]; rfl

theorem Laws.RowMatch.bs0 (off : BitVec 8) : Laws.RowMatch.Statement (.bs0 off) := by
  unfold Laws.RowMatch.Statement OpcodeRow.matches Instr.row encode
  rw [Laws.encodeB_mask_FF00]; rfl

theorem Laws.RowMatch.bc1 (off : BitVec 8) : Laws.RowMatch.Statement (.bc1 off) := by
  unfold Laws.RowMatch.Statement OpcodeRow.matches Instr.row encode
  rw [Laws.encodeB_mask_FF00]; rfl

theorem Laws.RowMatch.bc0 (off : BitVec 8) : Laws.RowMatch.Statement (.bc0 off) := by
  unfold Laws.RowMatch.Statement OpcodeRow.matches Instr.row encode
  rw [Laws.encodeB_mask_FF00]; rfl

theorem Laws.RowMatch.bv1 (off : BitVec 8) : Laws.RowMatch.Statement (.bv1 off) := by
  unfold Laws.RowMatch.Statement OpcodeRow.matches Instr.row encode
  rw [Laws.encodeB_mask_FF00]; rfl

theorem Laws.RowMatch.bv0 (off : BitVec 8) : Laws.RowMatch.Statement (.bv0 off) := by
  unfold Laws.RowMatch.Statement OpcodeRow.matches Instr.row encode
  rw [Laws.encodeB_mask_FF00]; rfl

end Sys2Proof
end

