-- ==== Sys2Proof/Tests/Slice0.lean ====
section
/-! SUPPORT. Our own tests. Every word and every expected value is taken from the spec: the words from the encodings of spec/30,
bit by bit, the results from the worked examples of each instruction's rule (spec/40 to spec/48) and of spec/95. -/

namespace Sys2Proof.Tests

open Sys2Proof.Machine

/-! ## Helpers -/

/-- Memory with the given words. -/
def cells (l : List (Nat × Word)) : Memory := l.foldl (fun m c => Memory.insert m c.1 c.2) []

/-- The machine right after reset but at 0x0100, with the given words of memory; register n is word 0xFFF8 + n. -/
def cpu (l : List (Nat × Word)) : State := { State.reset with pc := 0x0100#16, mem := cells l }

/-- `cpu` with flags. -/
def cpuF (z s c v : Bool) (l : List (Nat × Word)) : State :=
  { cpu l with flags := { z := .known z, s := .known s, c := .known c, v := .known v } }

/-- A state after an EXTI of `imm`. -/
def ext (imm : BitVec 13) (s : State) : State := { s with ext13 := .known imm, hasExt13 := true }

/-- One step from a state with the instruction's word at PC, the word as the host places it; then a check. -/
def runs (s : State) (w : Nat) (p : State → Bool) : Bool :=
  match step (s.withFetchWord 16 w) with
  | .next t => p t
  | .fault _ => false
  | .refused _ => false

/-- One step that stops for the given reason. -/
def stops (s : State) (w : Nat) (f : Fault) : Bool :=
  match step (s.withFetchWord 16 w) with
  | .next _ => false
  | .fault g => g == f
  | .refused _ => false

/-- The decoder gives the instruction. -/
def reads (w : Word) (i : Instr) : Bool :=
  match decode w with
  | .ok j => j == i
  | .error _ => false

/-- The decoder refuses the word for the given reason. -/
def refuses (w : Word) (why : Unlisted) : Bool :=
  match decode w with
  | .ok _ => false
  | .error x => x == why

/-- The addresses of the read transactions. -/
def readsAt : List BusEvent → List (Val Word)
  | [] => []
  | .read a _ :: rest => a :: readsAt rest
  | .write _ _ :: rest => readsAt rest

/-- A meaning goes on. -/
def goesOn (a : Answer) : Bool :=
  match a with
  | .next _ => true
  | .fault _ => false
  | .refused _ => false

theorem next_of_goesOn {a : Answer} (h : goesOn a = true) : ∃ t, a = .next t := by
  cases a with
  | next t => exact ⟨t, rfl⟩
  | fault _ => cases h
  | refused _ => cases h

/-- Flags in the order Z, S, C, V. -/
def zscv (z s c v : Bool) : Flags := { z := .known z, s := .known s, c := .known c, v := .known v }

/-- Z and S, with C and V UNDEFINED. -/
def zsuu (z s : Bool) : Flags := { z := .known z, s := .known s, c := .undefined, v := .undefined }

/-! ## WellFormed: each alias mnemonic is refused, no word decodes to it -/

theorem test_wellFormed_refuses_beq : (Instr.beq 5).wellFormed = false := by decide
theorem test_wellFormed_refuses_bgeu : (Instr.bgeu 5).wellFormed = false := by decide
theorem test_wellFormed_refuses_bltu : (Instr.bltu 5).wellFormed = false := by decide
theorem test_wellFormed_refuses_bne : (Instr.bne 5).wellFormed = false := by decide
theorem test_wellFormed_refuses_bz : (Instr.bz 5).wellFormed = false := by decide
theorem test_wellFormed_refuses_bnz : (Instr.bnz 5).wellFormed = false := by decide
theorem test_wellFormed_refuses_bs : (Instr.bs 5).wellFormed = false := by decide
theorem test_wellFormed_refuses_bns : (Instr.bns 5).wellFormed = false := by decide
theorem test_wellFormed_refuses_bc : (Instr.bc 5).wellFormed = false := by decide
theorem test_wellFormed_refuses_bnc : (Instr.bnc 5).wellFormed = false := by decide
theorem test_wellFormed_refuses_bv : (Instr.bv 5).wellFormed = false := by decide
theorem test_wellFormed_refuses_bnv : (Instr.bnv 5).wellFormed = false := by decide
theorem test_wellFormed_accepts_bz1 : (Instr.bz1 5).wellFormed = true := by decide

/-! ## Decoding: a word of each encoding, its fields apart -/

theorem test_decode_add : reads 0b00010_001_010_00_100#16 (.add 1 2 4) = true := by decide
theorem test_decode_addi : reads 0b00011_000_010_00_001#16 (.addi 0 2 1) = true := by decide
theorem test_decode_adc : reads 0b00010_000_010_01_100#16 (.adc 0 2 4) = true := by decide
theorem test_decode_adci : reads 0b00011_001_011_01_100#16 (.adci 1 3 4) = true := by decide
theorem test_decode_sub : reads 0b00010_000_010_10_100#16 (.sub 0 2 4) = true := by decide
theorem test_decode_subi : reads 0b00011_000_010_10_001#16 (.subi 0 2 1) = true := by decide
theorem test_decode_sbc : reads 0b00010_000_010_11_100#16 (.sbc 0 2 4) = true := by decide
theorem test_decode_sbci : reads 0b00011_000_010_11_001#16 (.sbci 0 2 1) = true := by decide
theorem test_decode_cmp : reads 0b00000_000_010_11_100#16 (.cmp 2 4) = true := by decide
theorem test_decode_cmpi : reads 0b00001_000_010_11_001#16 (.cmpi 2 1) = true := by decide
theorem test_decode_and : reads 0b00000_001_010_00_100#16 (.and 1 2 4) = true := by decide
theorem test_decode_andi : reads 0b00001_001_010_00_100#16 (.andi 1 2 4) = true := by decide
theorem test_decode_or : reads 0b00000_001_010_01_100#16 (.or 1 2 4) = true := by decide
theorem test_decode_ori : reads 0b00001_001_010_01_100#16 (.ori 1 2 4) = true := by decide
theorem test_decode_xor : reads 0b00000_001_001_10_010#16 (.xor 1 1 2) = true := by decide
theorem test_decode_xori : reads 0b00001_001_010_10_111#16 (.xori 1 2 7) = true := by decide
theorem test_decode_sll : reads 0b00100_000_010_00_100#16 (.sll 0 2 4) = true := by decide
theorem test_decode_slli : reads 0b00101_000_010_00_001#16 (.slli 0 2 1) = true := by decide
theorem test_decode_srl : reads 0b00100_000_010_10_100#16 (.srl 0 2 4) = true := by decide
theorem test_decode_srli : reads 0b00101_000_010_10_001#16 (.srli 0 2 1) = true := by decide
theorem test_decode_sra : reads 0b00100_000_010_11_100#16 (.sra 0 2 4) = true := by decide
theorem test_decode_srai : reads 0b00101_000_010_11_001#16 (.srai 0 2 1) = true := by decide
theorem test_decode_rol : reads 0b00100_000_010_01_100#16 (.rol 0 2 4) = true := by decide
theorem test_decode_roli : reads 0b00101_000_010_01_001#16 (.roli 0 2 1) = true := by decide
theorem test_decode_ld : reads 0b01000_000_001_00010#16 (.ld 0 1 2) = true := by decide
theorem test_decode_ldr : reads 0b01001_000_001_11111#16 (.ldr 0 1 31) = true := by decide
theorem test_decode_st : reads 0b01010_000_001_10000#16 (.st 0 1 16) = true := by decide
theorem test_decode_str : reads 0b01011_000_001_00001#16 (.str 0 1 1) = true := by decide
theorem test_decode_ldx : reads 0b01100_000_001_00010#16 (.ldx 0 1 2) = true := by decide
theorem test_decode_ldxa : reads 0b01101_010_00000101#16 (.ldxa 2 5) = true := by decide
theorem test_decode_stx : reads 0b01110_000_001_00010#16 (.stx 0 1 2) = true := by decide
theorem test_decode_stxa : reads 0b01111_011_10000000#16 (.stxa 3 0x80) = true := by decide
theorem test_decode_movi : reads 0b10000_011_11111111#16 (.movi 3 0xFF) = true := by decide
theorem test_decode_movr : reads 0b10001_010_00000011#16 (.movr 2 3) = true := by decide
theorem test_decode_stw : reads 0b10100_000_000_00_110#16 (.stw 6) = true := by decide
theorem test_decode_xchw : reads 0b10100_111_001_00_011#16 (.xchw 7 3) = true := by decide
theorem test_decode_adjw : reads 0b10100_000_010_11000#16 (.adjw 24) = true := by decide
theorem test_decode_ldw : reads 0b10100_110_011_11000#16 (.ldw 6 24) = true := by decide
theorem test_decode_jr : reads 0b10100_011_100_11111#16 (.jr 3 31) = true := by decide
theorem test_decode_jral : reads 0b10100_001_101_00_010#16 (.jral 1 2) = true := by decide
theorem test_decode_jvt : reads 0b10100_010_110_00001#16 (.jvt 2 1) = true := by decide
theorem test_decode_jst : reads 0b10100_001_111_00100#16 (.jst 1 4) = true := by decide
theorem test_decode_jal : reads 0b10101_111_11111101#16 (.jal 7 0xFD) = true := by decide
theorem test_decode_bz0 : reads 0b1011_0000_00000101#16 (.bz0 5) = true := by decide
theorem test_decode_bs0 : reads 0b1011_0001_00000101#16 (.bs0 5) = true := by decide
theorem test_decode_bc0 : reads 0b1011_0010_00000101#16 (.bc0 5) = true := by decide
theorem test_decode_bv0 : reads 0b1011_0011_00000101#16 (.bv0 5) = true := by decide
theorem test_decode_bgtu : reads 0b1011_0100_00000101#16 (.bgtu 5) = true := by decide
theorem test_decode_bges : reads 0b1011_0101_00000101#16 (.bges 5) = true := by decide
theorem test_decode_bgts : reads 0b1011_0110_00000101#16 (.bgts 5) = true := by decide
theorem test_decode_nop : reads 0b1011_0111_00000000#16 (.nop) = true := by decide
theorem test_decode_bz1 : reads 0b1011_1000_10000000#16 (.bz1 0x80) = true := by decide
theorem test_decode_bs1 : reads 0b1011_1001_00000101#16 (.bs1 5) = true := by decide
theorem test_decode_bc1 : reads 0b1011_1010_00000101#16 (.bc1 5) = true := by decide
theorem test_decode_bv1 : reads 0b1011_1011_00000101#16 (.bv1 5) = true := by decide
theorem test_decode_bleu : reads 0b1011_1100_00000101#16 (.bleu 5) = true := by decide
theorem test_decode_blts : reads 0b1011_1101_00000101#16 (.blts 5) = true := by decide
theorem test_decode_bles : reads 0b1011_1110_00000101#16 (.bles 5) = true := by decide
theorem test_decode_j : reads 0b1011_1111_01111111#16 (.j 0x7F) = true := by decide
theorem test_decode_exti : reads 0b110_1000000000001#16 (.exti 0x1001) = true := by decide

/-! An alias mnemonic is another name of the word (R133). -/

theorem test_decode_beq : encode (.beq 5) = 0b1011_1000_00000101#16 ∧ reads 0b1011_1000_00000101#16 (.bz1 5) = true := by
  decide
theorem test_decode_bz : encode (.bz 5) = 0b1011_1000_00000101#16 ∧ reads 0b1011_1000_00000101#16 (.bz1 5) = true := by
  decide
theorem test_decode_bne : encode (.bne 5) = 0b1011_0000_00000101#16 ∧ reads 0b1011_0000_00000101#16 (.bz0 5) = true := by
  decide
theorem test_decode_bnz : encode (.bnz 5) = 0b1011_0000_00000101#16 ∧ reads 0b1011_0000_00000101#16 (.bz0 5) = true := by
  decide
theorem test_decode_bs : encode (.bs 5) = 0b1011_1001_00000101#16 ∧ reads 0b1011_1001_00000101#16 (.bs1 5) = true := by
  decide
theorem test_decode_bns : encode (.bns 5) = 0b1011_0001_00000101#16 ∧ reads 0b1011_0001_00000101#16 (.bs0 5) = true := by
  decide
theorem test_decode_bc : encode (.bc 5) = 0b1011_1010_00000101#16 ∧ reads 0b1011_1010_00000101#16 (.bc1 5) = true := by
  decide
theorem test_decode_bgeu : encode (.bgeu 5) = 0b1011_1010_00000101#16 ∧ reads 0b1011_1010_00000101#16 (.bc1 5) = true := by
  decide
theorem test_decode_bnc : encode (.bnc 5) = 0b1011_0010_00000101#16 ∧ reads 0b1011_0010_00000101#16 (.bc0 5) = true := by
  decide
theorem test_decode_bltu : encode (.bltu 5) = 0b1011_0010_00000101#16 ∧ reads 0b1011_0010_00000101#16 (.bc0 5) = true := by
  decide
theorem test_decode_bv : encode (.bv 5) = 0b1011_1011_00000101#16 ∧ reads 0b1011_1011_00000101#16 (.bv1 5) = true := by
  decide
theorem test_decode_bnv : encode (.bnv 5) = 0b1011_0011_00000101#16 ∧ reads 0b1011_0011_00000101#16 (.bv0 5) = true := by
  decide

/-! ## The words that are no instruction, one for each row of the table of R122 -/

theorem test_unlisted_cmpRd : refuses 0b00000_001_010_11_100#16 .cmpRd = true := by decide
theorem test_unlisted_cmpiRd : refuses 0b00001_111_010_11_001#16 .cmpiRd = true := by decide
theorem test_unlisted_opcode3 : refuses 0x3FFF#16 .opcode3 = true := by decide
theorem test_unlisted_opcode9 : refuses 0x9000#16 .opcode9 = true := by decide
theorem test_unlisted_stwFields : refuses 0b10100_000_000_01_110#16 .stwFields = true := by decide
theorem test_unlisted_xchwBits : refuses 0b10100_111_001_10_011#16 .xchwBits = true := by decide
theorem test_unlisted_adjwRd : refuses 0b10100_100_010_11000#16 .adjwRd = true := by decide
theorem test_unlisted_jralBits : refuses 0b10100_001_101_01_010#16 .jralBits = true := by decide
theorem test_unlisted_nopOffset : refuses 0xB701#16 .nopOffset = true := by decide
theorem test_unlisted_opcode7 : refuses 0xE000#16 .opcode7 = true := by decide
theorem test_unlisted_stops : stops (cpu []) 0x3000 (.unlistedEncoding .opcode3) = true := by decide

/-- The host's numbering: every instruction is one 16-bit word (R100). -/
theorem test_decodeTableWord : decodeTableWord 16 0x1044 = some (.add 0 2 4) ∧ decodeTableWord 16 0x3000 = none := by decide

/-! ## One step of each instruction -/

theorem test_add : runs (cpu [(0xFFFA, 0x8000#16), (0xFFFC, 0xFFFF#16)]) 0x1044 (fun t => t.reg 0 == .known 0x7FFF#16 && t.flags == zscv false false true true && t.pc == 0x0101#16) = true := by decide
theorem test_add_same_register : runs (cpu [(0xFFF9, 0x8000#16)]) 0x1121 (fun t => t.reg 1 == .known 0x0000#16 && t.flags == zscv true false true true) = true := by decide
theorem test_addi : runs (cpu [(0xFFFA, 0x1234#16)]) 0x1841 (fun t => t.reg 0 == .known 0x1235#16 && t.flags == zscv false false false false) = true := by decide
theorem test_addi_long : runs (ext 0x0246 (cpu [(0xFFFA, 0x1111#16)])) 0x1844 (fun t => t.reg 0 == .known 0x2345#16 && !t.hasExt13) = true := by decide
theorem test_adc : runs (cpuF false false true false [(0xFFFA, 0xFFFF#16), (0xFFFC, 0x0000#16)]) 0x104C (fun t => t.reg 0 == .known 0x0000#16 && t.flags == zscv true false true false) = true := by decide
theorem test_adc_undefined_carry : runs (cpu [(0xFFFA, 0x0001#16), (0xFFFC, 0x0001#16)]) 0x104C (fun t => t.reg 0 == .undefined && t.flags.z == .undefined && t.pc == 0x0101#16) = true := by decide
theorem test_adci_long : runs (ext 0x0000 (cpuF false false true false [(0xFFFB, 0x0002#16)])) 0x196C (fun t => t.reg 1 == .known 0x0007#16) = true := by decide
theorem test_sub : runs (cpu [(0xFFFA, 0x8000#16), (0xFFFC, 0x0001#16)]) 0x1054 (fun t => t.reg 0 == .known 0x7FFF#16 && t.flags == zscv false false true true) = true := by decide
theorem test_sub_borrow : runs (cpu [(0xFFFA, 0x0003#16), (0xFFFC, 0x0005#16)]) 0x1054 (fun t => t.reg 0 == .known 0xFFFE#16 && t.flags == zscv false true false false) = true := by decide
theorem test_subi : runs (cpu [(0xFFFA, 0x0000#16)]) 0x1851 (fun t => t.reg 0 == .known 0xFFFF#16 && t.flags == zscv false true false false) = true := by decide
theorem test_sbc : runs (cpuF false false false false [(0xFFFA, 0x0005#16), (0xFFFC, 0x0005#16)]) 0x105C (fun t => t.reg 0 == .known 0xFFFF#16 && t.flags == zscv false true false false) = true := by decide
theorem test_sbci : runs (cpuF false false true false [(0xFFFA, 0x0001#16)]) 0x1859 (fun t => t.reg 0 == .known 0x0000#16 && t.flags == zscv true false true false) = true := by decide
theorem test_cmp : runs (cpu [(0xFFFA, 0x7FFF#16), (0xFFFC, 0x8000#16)]) 0x005C (fun t => t.reg 0 == .undefined && t.flags == zscv false true false true) = true := by decide
theorem test_cmpi : runs (cpu [(0xFFF8, 0x0000#16)]) 0x0818 (fun t => t.flags == zscv true false true false) = true := by decide
theorem test_and : runs (cpuF true true true true [(0xFFFA, 0x1234#16)]) 0x0142 (fun t => t.reg 1 == .known 0x1234#16 && t.flags == zsuu false false) = true := by decide
theorem test_andi : runs (cpu [(0xFFFA, 0x1234#16)]) 0x0944 (fun t => t.reg 1 == .known 0x0034#16 && t.flags == zsuu false false) = true := by decide
theorem test_or : runs (cpu [(0xFFFA, 0x8000#16), (0xFFFC, 0x0001#16)]) 0x014C (fun t => t.reg 1 == .known 0x8001#16 && t.flags == zsuu false true) = true := by decide
theorem test_ori : runs (cpu [(0xFFFA, 0x00FF#16)]) 0x094D (fun t => t.reg 1 == .known 0xFFFF#16 && t.flags == zsuu false true) = true := by decide
theorem test_xor : runs (cpu [(0xFFF9, 0x1234#16), (0xFFFA, 0x1234#16)]) 0x0132 (fun t => t.reg 1 == .known 0x0000#16 && t.flags == zsuu true false) = true := by decide
theorem test_xor_undefined : runs (cpu []) 0x0131 (fun t => t.reg 1 == .undefined && t.flags.z == .undefined) = true := by decide
theorem test_xori : runs (cpu [(0xFFFA, 0x1234#16)]) 0x0957 (fun t => t.reg 1 == .known 0xEDCB#16 && t.flags == zsuu false true) = true := by decide
theorem test_sll : runs (cpu [(0xFFFA, 0x0003#16), (0xFFFC, 0x000F#16)]) 0x2044 (fun t => t.reg 0 == .known 0x8000#16 && t.flags == zsuu false true) = true := by decide
theorem test_sll_amount_16 : stops (cpu [(0xFFFA, 0x0003#16), (0xFFFC, 0x0010#16)]) 0x2044 .shiftAmount = true := by decide
theorem test_slli : runs (cpu [(0xFFFA, 0x12AB#16)]) 0x2840 (fun t => t.reg 0 == .known 0xAB00#16) = true := by decide
theorem test_slli_amount_16 : stops (ext 0x0002 (cpu [(0xFFFA, 0x0003#16)])) 0x2840 .shiftAmount = true := by decide
theorem test_srl : runs (cpu [(0xFFFA, 0x8234#16), (0xFFFC, 0x0004#16)]) 0x2054 (fun t => t.reg 0 == .known 0x0823#16) = true := by decide
theorem test_srli : runs (cpu [(0xFFFA, 0x8000#16)]) 0x2851 (fun t => t.reg 0 == .known 0x4000#16 && t.flags == zsuu false false) = true := by decide
theorem test_sra : runs (cpu [(0xFFFA, 0x8234#16), (0xFFFC, 0x0004#16)]) 0x205C (fun t => t.reg 0 == .known 0xF823#16) = true := by decide
theorem test_sra_positive : runs (cpu [(0xFFFA, 0x7FFF#16), (0xFFFC, 0x000F#16)]) 0x205C (fun t => t.reg 0 == .known 0x0000#16 && t.flags == zsuu true false) = true := by decide
theorem test_srai : runs (cpu [(0xFFFA, 0xABCD#16)]) 0x2858 (fun t => t.reg 0 == .known 0xFFAB#16) = true := by decide
theorem test_rol : runs (cpu [(0xFFFA, 0x1234#16), (0xFFFC, 0x0004#16)]) 0x204C (fun t => t.reg 0 == .known 0x2341#16) = true := by decide
theorem test_rol_zero : runs (cpu [(0xFFFA, 0x8001#16), (0xFFFC, 0x0000#16)]) 0x204C (fun t => t.reg 0 == .known 0x8001#16 && t.flags == zsuu false true) = true := by decide
theorem test_roli_long : runs (ext 0x0001 (cpu [(0xFFFA, 0x1234#16)])) 0x284C (fun t => t.reg 0 == .known 0x4123#16) = true := by decide
theorem test_movi : runs (cpuF true false true false []) 0x8380 (fun t => t.reg 3 == .known 0xFF80#16 && t.flags == zscv true false true false) = true := by decide
theorem test_movi_long : runs (ext 0x0246 (cpu [])) 0x8304 (fun t => t.reg 3 == .known 0x1234#16 && !t.hasExt13) = true := by decide
theorem test_movi_long_field_bits : stops (ext 0x0000 (cpu [])) 0x8308 .longFormFieldBits = true := by decide
theorem test_movr : runs (cpu []) 0x8AFF (fun t => t.reg 2 == .known 0x0100#16) = true := by decide
theorem test_exti : runs (ext 0x0111 (cpu [])) 0xC246 (fun t => t.ext13 == .known 0x0246#13 && t.hasExt13 && t.pc == 0x0101#16) = true := by decide
theorem test_nop : runs (ext 0x0246 (cpuF true true true true [])) 0xB700 (fun t => !t.hasExt13 && t.flags == zscv true true true true && t.pc == 0x0101#16) = true := by decide
theorem test_adjw : runs (cpu []) 0xA048 (fun t => t.w == 0x0000#16 && t.pc == 0x0101#16) = true := by decide
theorem test_adjw_4 : stops (cpu []) 0xA044 .windowAlignment = true := by decide
theorem test_ldw : runs (cpu [(0xFFFE, 0xAAAA#16)]) 0xA678 (fun t => t.w == 0xFFF0#16 && t.mem.read 0xFFF6#16 == .known 0xFFF8#16 && t.mem.read 0xFFFE#16 == .known 0xAAAA#16) = true := by decide
theorem test_stw : runs (cpu [(0xFFFE, 0x1000#16)]) 0xA006 (fun t => t.w == 0x1000#16 && t.mem.read 0xFFFE#16 == .known 0x1000#16) = true := by decide
theorem test_xchw : runs (cpu [(0xFFF9, 0x5555#16), (0xFFFA, 0x2000#16)]) 0xA122 (fun t => t.w == 0x2000#16 && t.mem.read 0x2001#16 == .known 0xFFF8#16 && t.mem.read 0xFFF9#16 == .known 0x5555#16) = true := by decide
theorem test_ld : runs (cpu [(0x1FFF, 0xCAFE#16), (0xFFF9, 0x2000#16)]) 0x403F (fun t => t.reg 0 == .known 0xCAFE#16) = true := by decide
theorem test_ld_register_of_window : runs (cpu [(0xFFF9, 0xFFF8#16), (0xFFFB, 0x3333#16)]) 0x4023 (fun t => t.reg 0 == .known 0x3333#16) = true := by decide
theorem test_ldr : runs (cpu [(0xFFF9, 0x0000#16)]) 0x483F (fun t => t.reg 0 == .known 0x483F#16) = true := by decide
theorem test_st : runs (cpu [(0xFFF8, 0xABCD#16), (0xFFF9, 0xFFF8#16)]) 0x5025 (fun t => t.reg 5 == .known 0xABCD#16) = true := by decide
theorem test_str : runs (cpu [(0xFFF8, 0x8207#16), (0xFFF9, 0x0000#16)]) 0x5820 (fun t => t.mem.read 0x0101#16 == .known 0x8207#16 && t.pc == 0x0101#16) = true := by decide
theorem test_ldx : runs (cpu [(0xFFF9, 0x0000#16)]) 0x603F (fun t => readsAt t.bus == [.known 0xFFFF#16] && t.pc == 0x0101#16) = true := by decide
theorem test_ldxa : runs (cpu []) 0x6A80 (fun t => readsAt t.bus == [.known 0xFF80#16]) = true := by decide
theorem test_stx : runs (cpu [(0xFFF8, 0xABCD#16), (0xFFF9, 0x0010#16)]) 0x7022 (fun t => t.bus == [.write (.known 0x0012#16) (.known 0xABCD#16)]) = true := by decide
theorem test_stxa_long : runs (ext 0x0246 (cpu [(0xFFFB, 0x00FF#16)])) 0x7B04 (fun t => t.bus == [.write (.known 0x1234#16) (.known 0x00FF#16)]) = true := by decide
theorem test_j : runs (cpu []) 0xBF80 (fun t => t.pc == 0x0081#16) = true := by decide
theorem test_j_self : runs (cpu []) 0xBFFF (fun t => t.pc == 0x0100#16) = true := by decide
theorem test_jal : runs (cpu []) 0xAFFD (fun t => t.reg 7 == .known 0x0101#16 && t.pc == 0x00FE#16) = true := by decide
theorem test_jr : runs (cpu [(0xFFF8, 0x0000#16)]) 0xA09F (fun t => t.pc == 0xFFFF#16) = true := by decide
theorem test_jral_same_register : runs (cpu [(0xFFF9, 0x0300#16)]) 0xA1A1 (fun t => t.reg 1 == .known 0x0101#16 && t.pc == 0x0300#16) = true := by decide
theorem test_jst : runs (cpu [(0x0106, 0xFFFB#16), (0xFFF9, 0x0001#16)]) 0xA1E4 (fun t => t.pc == 0x0100#16) = true := by decide
theorem test_jvt : runs (cpu [(0x0401, 0x0020#16), (0xFFFA, 0x0400#16)]) 0xA2C1 (fun t => t.pc == 0x0420#16) = true := by decide
theorem test_bz1 : runs (cpuF true false true false []) 0xB805 (fun t => t.pc == 0x0106#16) = true := by decide
theorem test_bz0 : runs (cpuF true false true false []) 0xB005 (fun t => t.pc == 0x0101#16) = true := by decide
theorem test_bs1 : runs (cpuF false true false false []) 0xB905 (fun t => t.pc == 0x0106#16) = true := by decide
theorem test_bs0 : runs (cpuF false true false false []) 0xB105 (fun t => t.pc == 0x0101#16) = true := by decide
theorem test_bc1 : runs (cpuF false true false false []) 0xBA05 (fun t => t.pc == 0x0101#16) = true := by decide
theorem test_bc0 : runs (cpuF false true false false []) 0xB205 (fun t => t.pc == 0x0106#16) = true := by decide
theorem test_bv1 : runs (cpuF false true false true []) 0xBB05 (fun t => t.pc == 0x0106#16) = true := by decide
theorem test_bv0 : runs (cpuF false true false true []) 0xB305 (fun t => t.pc == 0x0101#16) = true := by decide
theorem test_bgtu : runs (cpuF true false true false []) 0xB405 (fun t => t.pc == 0x0101#16) = true := by decide
theorem test_bleu : runs (cpuF true false true false []) 0xBC05 (fun t => t.pc == 0x0106#16) = true := by decide
theorem test_bges : runs (cpuF false true false true []) 0xB505 (fun t => t.pc == 0x0106#16) = true := by decide
theorem test_blts : runs (cpuF false false true true []) 0xBD05 (fun t => t.pc == 0x0106#16) = true := by decide
theorem test_bgts : runs (cpuF false true false true []) 0xB605 (fun t => t.pc == 0x0106#16) = true := by decide
theorem test_bles : runs (cpuF true false true false []) 0xBE05 (fun t => t.pc == 0x0106#16) = true := by decide

/-! The alias meanings, which no word decodes to. -/

theorem test_beq : (match exec (.beq 5) (cpuF true false true false []) with | .next t => t.pc == 0x0106#16 | _ => false) = true := by
  decide
theorem test_bne : (match exec (.bne 5) (cpuF true false true false []) with | .next t => t.pc == 0x0101#16 | _ => false) = true := by
  decide
theorem test_bz : (match exec (.bz 5) (cpuF false false true false []) with | .next t => t.pc == 0x0101#16 | _ => false) = true := by
  decide
theorem test_bnz : (match exec (.bnz 5) (cpuF false false true false []) with | .next t => t.pc == 0x0106#16 | _ => false) = true := by
  decide
theorem test_bs : (match exec (.bs 5) (cpuF false true false false []) with | .next t => t.pc == 0x0106#16 | _ => false) = true := by
  decide
theorem test_bns : (match exec (.bns 5) (cpuF false true false false []) with | .next t => t.pc == 0x0101#16 | _ => false) = true := by
  decide
theorem test_bc : (match exec (.bc 5) (cpuF false false true false []) with | .next t => t.pc == 0x0106#16 | _ => false) = true := by
  decide
theorem test_bnc : (match exec (.bnc 5) (cpuF false false true false []) with | .next t => t.pc == 0x0101#16 | _ => false) = true := by
  decide
theorem test_bgeu : (match exec (.bgeu 5) (cpuF false true false false []) with | .next t => t.pc == 0x0101#16 | _ => false) = true := by
  decide
theorem test_bltu : (match exec (.bltu 5) (cpuF false true false false []) with | .next t => t.pc == 0x0106#16 | _ => false) = true := by
  decide
theorem test_bv : (match exec (.bv 5) (cpuF false false true true []) with | .next t => t.pc == 0x0106#16 | _ => false) = true := by
  decide
theorem test_bnv : (match exec (.bnv 5) (cpuF false false true true []) with | .next t => t.pc == 0x0101#16 | _ => false) = true := by
  decide

/-! ## Values that are open -/

/-- At reset a step goes on: the fetched word is a free word, or the word placed there (log 8, log 18). -/
theorem test_reset_runs_movi : runs State.reset 0x8305 (fun t => t.reg 3 == .known 5#16 && t.pc == 0x0001#16) = true := by decide

/-- A branch on an UNDEFINED flag goes on (log 9). -/
theorem test_branch_on_undefined_flag : runs (cpu []) 0xBA05 (fun t => !t.hasExt13) = true := by decide

/-- The short form with imm3 = 3 is UNPREDICTABLE where `IMM_AL_3` was not supplied (R303, spec/95 "IMM_AL_3 unset"). -/
theorem test_imm_al_3_unset : stops (cpu [(0xFFFA, 0x0000#16)]) 0x1843 .immAl3Unset = true := by decide

/-- Where it was supplied, it is the operand (R14). -/
theorem test_imm_al_3_supplied :
    runs { cpu [(0xFFFA, 0x0001#16)] with platform := { immAl3 := some 0x0003#16 } } 0x1843
      (fun t => t.reg 0 == .known 0x0004#16 && t.flags == zscv false false false false) = true := by decide

/-- A supplied answer of the bus goes to Rd and is used up (R82, R221). -/
theorem test_bus_answer :
    runs { cpu [] with busAnswers := [0x1234#16, 0x5678#16] } 0x6A80
      (fun t => t.reg 2 == .known 0x1234#16 && t.busAnswers == [0x5678#16] &&
        t.bus == [.read (.known 0xFF80#16) (.known 0x1234#16)]) = true := by decide

/-- One step that is refused. -/
def refused (s : State) (w : Nat) : Bool :=
  match step (s.withFetchWord 16 w) with
  | .next _ => false
  | .fault _ => false
  | .refused x => x == .unpopulatedMemory

/-- `cpu` with no more memory than the words `first` to `last` and the word at PC. -/
def partly (first last : Word) (l : List (Nat × Word)) : State :=
  { cpu l with platform := { memPopulated := [⟨0x0100#16, 0x0100#16⟩, ⟨first, last⟩] } }

/-- Without the words of the reset window NOP goes on and MOVI is refused, except where it is UNPREDICTABLE before it writes
(R77, R21). -/
theorem test_unpopulated :
    runs (partly 0 0x7FFF []) 0xB700 (fun t => t.pc == 0x0101#16) = true ∧ refused (partly 0 0x7FFF []) 0x8305 = true ∧
      stops (ext 0 (partly 0 0x7FFF [])) 0x8308 .longFormFieldBits = true := by decide

/-- With R1 to R7 only: SLL R0 by 16 is UNPREDICTABLE before it writes R0, and by 15 its write of R0 is refused. -/
theorem test_unpopulated_write :
    stops (partly 0xFFF9 0xFFFF [(0xFFFC, 0x0010#16)]) 0x2044 .shiftAmount = true ∧
      refused (partly 0xFFF9 0xFFFF [(0xFFFC, 0x000F#16)]) 0x2044 = true := by decide

/-- A load at an UNDEFINED address is not refused and loads an UNDEFINED word (R210 (h), R304); at 0x2000 it is refused. -/
theorem test_load_at_undefined_address :
    runs (partly 0xFFF8 0xFFFF []) 0x4020 (fun t => t.reg 0 == .undefined && t.pc == 0x0101#16) = true ∧
      refused (partly 0xFFF8 0xFFFF [(0xFFF9, 0x2000#16)]) 0x4020 = true := by decide

/-- The program of R334 from reset: MOVI R0, 0 then CMPI R0, 0 make all four flags defined. -/
theorem test_boot :
    (State.boot { memInit := [(1, 0x0818#16), (0, 0x8000#16)] }).any (fun s =>
      match Host.Core.run Sys2Proof.core 2 s with
      | .next t => t.flags == zscv true false true false && t.pc == 2#16 && t.reg 0 == .known 0#16
      | _ => false) = true := by decide

/-- A `RESET_W` that is no multiple of 8 is refused (D3). -/
theorem test_boot_refuses : State.boot { resetW := 0x0001#16 } = none ∧ State.boot { resetW := 0xFFF4#16 } = none := by decide

/-! ## The assembler's part -/

/-- The long form of 0x1234 (R116). -/
theorem test_longForm : longForm 0x1234#16 = (.exti 0x0246, 0b100#3) := by decide

/-- `RORI R0, R2, 4` is 0xC001, 0x284C, and `RORI R0, R2, 9` is 0x284F (R179). -/
theorem test_rori :
    (Pseudo.expand (.rori 0 2 4)).map (·.map encode) = some [0xC001#16, 0x284C#16] ∧
    (Pseudo.expand (.rori 0 2 9)).map (·.map encode) = some [0x284F#16] ∧
    (Pseudo.expand (.rori 0 2 0)).map (·.map encode) = some [0xC000#16, 0x2848#16] := by decide

/-- `MOV R1, R2` is 0x0142, `MOV R3, R3` nothing, `XCHG R1, R2` is 0x0132, 0x0251, 0x0132 (R191, R194). -/
theorem test_mov_xchg :
    (Pseudo.expand (.mov 1 2)).map (·.map encode) = some [0x0142#16] ∧ Pseudo.expand (.mov 3 3) = some [] ∧
    (Pseudo.expand (.xchg 1 2)).map (·.map encode) = some [0x0132#16, 0x0251#16, 0x0132#16] ∧
    (Pseudo.expand (.not 1 2)).map (·.map encode) = some [0x0957#16] := by decide

/-- `J` at 0x0101 to 0x0040 has the offset 0xFF3E (R131, R231); -128 has a short form and 128 has none (R134). -/
theorem test_offsets :
    labelOffset 0x0040#16 0x0101#16 = 0xFF3E#16 ∧ short8 0xFF80#16 = some 0x80#8 ∧ short8 0x0080#16 = none ∧
    short5 0xFFF0#16 = some 0x10#5 ∧ short5 0x0010#16 = none ∧ shortSr 0#16 = none ∧ shortSr 8#16 = some 0#3 ∧
    shortAl none 0xFF00#16 = some 5#3 ∧ shortAl none 4#16 = none := by decide

/-- A constant equal to the supplied `IMM_AL_3` has the short form of entry 3 (R134 (a)). -/
theorem test_shortAl_entry_3 :
    shortAl (some 0x1234#16) 0x1234#16 = some 3#3 ∧ shortAl (some 0x1234#16) 0x1235#16 = none ∧
      shortAl (some 0x0001#16) 0x0001#16 = some 1#3 := by decide

/-! ## Every hypothesis of every statement can be met

One theorem for each statement with hypotheses, and one for each of its clauses. -/

/-- A state with R0 = 0x1044, R1 = 0x0101, R2 = 0x0000, R3 = 0xFFFF, R4 = 0x000F, R5 = 0x0010, R6 = 0x2000, all flags known. -/
def w : State := cpuF false true true false
  [(0xFFF8, 0x1044#16), (0xFFF9, 0x0101#16), (0xFFFA, 0x0000#16), (0xFFFB, 0xFFFF#16), (0xFFFC, 0x000F#16),
   (0xFFFD, 0x0010#16), (0xFFFE, 0x2000#16)]

theorem legal_short {n : Nat} {s : State} (f : BitVec n) (h : s.hasExt13 = false) : FieldLegal s f :=
  fun e => absurd (h.symm.trans e) (by decide)

theorem legal_long {n : Nat} {s : State} (f : BitVec n) (h : f.toNat < 8) : FieldLegal s f := fun _ => h

theorem witness_DecodeEncodeRoundTrip :
    (Instr.add 7 7 7).wellFormed = true := by decide

theorem witness_EncodeDecodeRoundTrip :
    decode 0xDFFF#16 = .ok (.exti 0x1FFF) := by decide

theorem witness_DecodeFollowsOpcodeMap :
    decode 0xB700#16 = .ok .nop ∧ (⟨0xB700#16, 0xFFFF#16⟩ : OpcodeRow) ∈ opcodeRows := by decide

theorem witness_StepRunsDecodedInstruction :
    (w.withFetchWord 16 0x1044).mem.read (w.withFetchWord 16 0x1044).pc = .known 0x1044#16 ∧
      decode 0x1044#16 = .ok (.add 0 2 4) ∧ (Instr.add 0 2 4).wellFormed = true ∧
      ReadsExist (.add 0 2 4) (w.withFetchWord 16 0x1044) ∧ WritesExist (.add 0 2 4) (w.withFetchWord 16 0x1044) ∧
      (w.withFetchWord 16 0x1044).platform.memPopulated = [{ first := 0x0000#16, last := 0xFFFF#16 }] := by
  unfold ReadsExist WritesExist; decide

/-- `w` with only the first 0x0200 words of memory. -/
def small : State := { w with platform := { memPopulated := [⟨0x0000#16, 0x01FF#16⟩] } }

theorem witness_StepRunsDecodedInstruction_refused :
    (small.withFetchWord 16 0x1044).mem.read (small.withFetchWord 16 0x1044).pc = .known 0x1044#16 ∧
      decode 0x1044#16 = .ok (.add 0 2 4) ∧ ¬ ReadsExist (.add 0 2 4) (small.withFetchWord 16 0x1044) := by
  unfold ReadsExist; decide

/-- MOVI reads no register, and its destination does not exist. -/
theorem witness_StepRunsDecodedInstruction_unwritten :
    (small.withFetchWord 16 0x8305).mem.read (small.withFetchWord 16 0x8305).pc = .known 0x8305#16 ∧
      decode 0x8305#16 = .ok (.movi 3 5) ∧ (Instr.movi 3 5).wellFormed = true ∧
      ReadsExist (.movi 3 5) (small.withFetchWord 16 0x8305) ∧ ¬ WritesExist (.movi 3 5) (small.withFetchWord 16 0x8305) ∧
      ∃ t, exec (.movi 3 5) (small.withFetchWord 16 0x8305) = .next t :=
  ⟨by decide, by decide, by decide, by unfold ReadsExist; decide, by unfold WritesExist; decide, next_of_goesOn (by decide)⟩

/-- The same in a long form with an illegal field: it stops before it would write. -/
theorem witness_StepRunsDecodedInstruction_stops :
    ((ext 0 small).withFetchWord 16 0x8308).mem.read ((ext 0 small).withFetchWord 16 0x8308).pc = .known 0x8308#16 ∧
      decode 0x8308#16 = .ok (.movi 3 8) ∧ ReadsExist (.movi 3 8) ((ext 0 small).withFetchWord 16 0x8308) ∧
      ∀ t, exec (.movi 3 8) ((ext 0 small).withFetchWord 16 0x8308) ≠ .next t :=
  ⟨by decide, by decide, by unfold ReadsExist; decide, fun _ h => nomatch h⟩

theorem witness_StepFaultsOnUnlistedWord :
    (w.withFetchWord 16 0xE000).mem.read (w.withFetchWord 16 0xE000).pc = .known 0xE000#16 ∧
      decode 0xE000#16 = .error .opcode7 ∧ (w.withFetchWord 16 0xE000).populated (.known (w.withFetchWord 16 0xE000).pc) = true := by decide

theorem witness_StepOfUndefinedWord :
    State.reset.mem.read State.reset.pc = .undefined ∧ State.reset.populated (.known State.reset.pc) = true := by decide

theorem witness_ResetOpenState :
    (∃ s, State.boot { memInit := [(1, 0x0818#16), (0, 0x8000#16)] } = some s) ∧
      ({ memInit := [(1, 0x0818#16), (0, 0x8000#16)] } : Params).memInit.lookup 0#16 = some 0x8000#16 ∧
      ({ memInit := [(1, 0x0818#16), (0, 0x8000#16)] } : Params).memInit.lookup 0xFFFF#16 = none ∧
      ({ resetW := 0x0007#16 } : Params).resetW.toNat % 8 ≠ 0 := ⟨⟨_, rfl⟩, by decide⟩

theorem witness_ResetInv :
    ∃ s, ({ resetW := 0x0100#16 } : Params).resetHasExt13 = false ∧ State.boot { resetW := 0x0100#16 } = some s :=
  ⟨_, rfl, rfl⟩

theorem witness_StoreReachesNextFetch_st :
    FieldLegal w 0#5 ∧ operandField w 0#5 = .known 0#16 ∧ w.reg 1 = .known 0x0101#16 ∧ w.reg 0 = .known 0x1044#16 ∧
      decode 0x1044#16 = .ok (.add 0 2 4) ∧ 0x0101#16 + 0#16 = w.pc + 1#16 ∧
      (∃ t, exec (.st 0 1 0) w = .next t ∧ ReadsExist (.add 0 2 4) t ∧ WritesExist (.add 0 2 4) t) :=
  ⟨legal_short _ rfl, by decide, by decide, by decide, by decide, by decide, _, rfl, by unfold ReadsExist WritesExist; decide⟩

theorem witness_StoreReachesNextFetch_str :
    FieldLegal w 0#5 ∧ operandField w 0#5 = .known 0#16 ∧ w.reg 2 = .known 0#16 ∧ w.reg 0 = .known 0x1044#16 ∧
      decode 0x1044#16 = .ok (.add 0 2 4) ∧ 0#16 + 0#16 = 0#16 ∧
      (∃ t, exec (.str 0 2 0) w = .next t ∧ ReadsExist (.add 0 2 4) t ∧ WritesExist (.add 0 2 4) t) :=
  ⟨legal_short _ rfl, by decide, by decide, by decide, by decide, by decide, _, rfl, by unfold ReadsExist WritesExist; decide⟩

theorem witness_EndOfRun_short :
    State.Inv (cpu [(0x0100, 0xBFFF#16)]) ∧ (cpu [(0x0100, 0xBFFF#16)]).mem.read 0x0100#16 = .known 0xBFFF#16 ∧
      (cpu [(0x0100, 0xBFFF#16)]).populated (.known 0x0100#16) = true ∧ (cpu [(0x0100, 0xBFFF#16)]).hasExt13 = false := by
  unfold State.Inv; decide

theorem witness_EndOfRun_long :
    State.Inv (ext 0 (cpu [(0x0100, 0xBFFF#16)])) ∧
      (ext 0 (cpu [(0x0100, 0xBFFF#16)])).mem.read 0x0100#16 = .known 0xBFFF#16 ∧
      (ext 0 (cpu [(0x0100, 0xBFFF#16)])).populated (.known 0x0100#16) = true ∧
      (ext 0 (cpu [(0x0100, 0xBFFF#16)])).hasExt13 = true := by unfold State.Inv; decide

theorem witness_StepKeepsInv :
    ∃ t, State.Inv (w.withFetchWord 16 0x1044) ∧ step (w.withFetchWord 16 0x1044) = .next t := 
  let ⟨t, h⟩ := next_of_goesOn (a := step (w.withFetchWord 16 0x1044)) (by decide)
  ⟨t, by unfold State.Inv; decide, h⟩

theorem witness_OnlyWindowInstructionsChangeW :
    ∃ t, (Instr.ld 0 1 0).movesWindow = false ∧ exec (.ld 0 1 0) w = .next t := ⟨_, rfl, rfl⟩

theorem witness_FlagWriters_kept :
    ∃ t, (Instr.movi 0 0).setsFlags = false ∧ exec (.movi 0 0) w = .next t := ⟨_, rfl, rfl⟩

theorem witness_FlagWriters_undefined :
    ∃ t, (Instr.and 0 1 2).isLogicOrShift = true ∧ exec (.and 0 1 2) w = .next t := ⟨_, rfl, rfl⟩

theorem witness_OnlyExtiLeavesPrefix_other :
    ∃ t, (Instr.nop).isExti = false ∧ exec .nop (ext 5 w) = .next t := ⟨_, rfl, rfl⟩

theorem witness_OnlyExtiLeavesPrefix_exti :
    ∃ t, exec (.exti 0x1FFF) (ext 5 w) = .next t := ⟨_, rfl⟩

theorem witness_DefaultAdvance :
    ∃ t, (Instr.exti 0).assignsPc = false ∧ exec (.exti 0) { w with pc := 0xFFFF#16 } = .next t ∧ t.pc = 0#16 := ⟨_, rfl, rfl, rfl⟩

theorem witness_BusTransactions_none :
    ∃ t, (Instr.ld 0 1 0).usesBus = false ∧ exec (.ld 0 1 0) w = .next t := ⟨_, rfl, rfl⟩

theorem witness_BusTransactions_bus :
    (∃ t, exec (.ldx 0 1 31) w = .next t) ∧ (∃ t, exec (.ldxa 0 0x80) w = .next t) ∧
      (∃ t, exec (.stx 0 1 31) w = .next t) ∧ ∃ t, exec (.stxa 0 0x80) w = .next t := ⟨⟨_, rfl⟩, ⟨_, rfl⟩, ⟨_, rfl⟩, ⟨_, rfl⟩⟩

theorem witness_MemoryFrame :
    ∃ t, exec (.movi 0 5) w = .next t ∧ ∀ a, StoresTo (.movi 0 5) w t a → 0xFFF7#16 ≠ a := by
  refine ⟨_, rfl, ?_⟩
  rintro a (⟨rd, h, rfl⟩ | ⟨_, _, _, _, h, _⟩ | ⟨_, _, _, _, h, _⟩)
  · cases h
    decide
  · cases h
  · cases h

/-- A word that is not written, and another memory that has the same words where ADD reads. -/
theorem witness_MemoryFrame_accesses :
    (∃ t, exec (.add 0 1 1) w = .next t) ∧ .known 0xFFF7#16 ∉ w.writes (.add 0 1 1) ∧
      ∀ b, .known b ∈ w.reads (.add 0 1 1) → (w.mem.write 0xFFF7#16 (.known 1#16)).read b = w.mem.read b := by
  refine ⟨⟨_, rfl⟩, by decide, fun b hb => ?_⟩
  obtain rfl : b = 0xFFF9#16 := by simpa [State.reads, State.regWord, State.regAddr, w, cpuF, cpu, Config.resetW] using hb
  decide

/-- In a short form some values have a short form and some have none. -/
theorem witness_LongFormBuildsConstant :
    w.hasExt13 = false ∧ shortAl w.platform.immAl3 0x7FFF#16 = some 6#3 ∧ shortAl w.platform.immAl3 2#16 = none ∧
      shortSr 8#16 = some 0#3 ∧ shortSr 9#16 = none ∧ short5 0x000F#16 = some 15#5 ∧ short5 0xFFEF#16 = none ∧
      short8 0x007F#16 = some 127#8 ∧ short8 0xFF7F#16 = none := by decide

theorem witness_ImmediateArithmeticResult :
    operandAl w 7#3 = some (.known 0xFFFF#16) ∧ operandAl (ext 3 w) 3#3 = some (.known 27#16) ∧ operandAl w 3#3 = none ∧
      operandAl { w with platform := { immAl3 := some 9#16 } } 3#3 = some (.known 9#16) := by decide

theorem witness_CompareResult :
    operandAl w 0#3 = some (.known 0#16) ∧ operandAl w 3#3 = none := by decide

theorem witness_LogicImmediateResult :
    operandAl w 2#3 = some (.known 0x8000#16) ∧ operandAl w 3#3 = none := by decide

theorem witness_LongFormFieldBitsFault_5 :
    (Instr.ld 0 1 8).wideField = some 8 ∧ (ext 0 w).hasExt13 = true ∧ 8 ≤ 8 := by decide

theorem witness_LongFormFieldBitsFault_8 :
    (Instr.j 0xFF).wideField = some 255 ∧ (ext 0 w).hasExt13 = true ∧ 8 ≤ 255 := by decide

theorem witness_ShiftRegisterResult :
    w.reg 4 = .known 0x000F#16 ∧ (0x000F#16).toNat ≤ 15 := by decide

theorem witness_ShiftImmediateResult_short :
    operandSr w 0#3 = .known 8#16 ∧ (8#16).toNat ≤ 15 := by decide

theorem witness_ShiftImmediateResult_long :
    operandSr (ext 1 w) 7#3 = .known 15#16 ∧ (15#16).toNat ≤ 15 := by decide

theorem witness_ShiftAmountAboveFifteen_register :
    w.reg 5 = .known 0x0010#16 ∧ 15 < (0x0010#16).toNat := by decide

theorem witness_ShiftAmountAboveFifteen_long :
    (ext 2 w).hasExt13 = true ∧ (ext 2 w).ext13 = .known 2#13 ∧ 2 ≤ (2#13).toNat := by decide

theorem witness_ShiftAmountAboveFifteen_short :
    w.hasExt13 = false := by decide

theorem witness_UndefinedShiftAmount :
    w.reg 7 = .undefined := by decide

theorem witness_MoveResult :
    FieldLegal w 0x80#8 ∧ FieldLegal (ext 3 w) 7#8 := ⟨legal_short _ rfl, legal_long _ (by decide)⟩

theorem witness_NopResult :
    0xB701 ≤ (0xB701#16).toNat ∧ (0xB7FF#16).toNat ≤ 0xB7FF := by decide

theorem witness_AdjustWindowResult :
    FieldLegal w 0b10000#5 ∧ operandField w 0b10000#5 = .known 0xFFF0#16 ∧ (0xFFF0#16).toNat % 8 = 0 := ⟨legal_short _ rfl, by decide⟩

theorem witness_AdjustWindowResult_long :
    FieldLegal (ext 0x1FFF w) 0#5 ∧ operandField (ext 0x1FFF w) 0#5 = .known 0xFFF8#16 ∧ (0xFFF8#16).toNat % 8 = 0 := ⟨legal_long _ (by decide), by decide⟩

theorem witness_LoadWindowResult :
    w.reg 6 = .known 0x2000#16 ∧ (0x2000#16).toNat % 8 = 0 := by decide

theorem witness_WindowAlignmentFaults_immediate :
    FieldLegal w 1#5 ∧ operandField w 1#5 = .known 1#16 ∧ (1#16).toNat % 8 ≠ 0 := ⟨legal_short _ rfl, by decide⟩

theorem witness_WindowAlignmentFaults_register :
    w.reg 3 = .known 0xFFFF#16 ∧ (0xFFFF#16).toNat % 8 ≠ 0 := by decide

theorem witness_UndefinedWindowValue :
    w.reg 7 = .undefined := by decide

theorem witness_WindowSaveRestore :
    w.w.toNat % 8 = 0 ∧ w.hasExt13 = false := by decide

theorem witness_LoadResult :
    FieldLegal w 31#5 ∧ FieldLegal (ext 3 w) 7#5 := ⟨legal_short _ rfl, legal_long _ (by decide)⟩

theorem witness_StoreResult :
    FieldLegal w 16#5 ∧ operandField w 16#5 = .known 0xFFF0#16 ∧ w.reg 1 = .known 0x0101#16 := ⟨legal_short _ rfl, by decide⟩

theorem witness_StoreIntoWindow_st :
    FieldLegal (ext 0x1FFF w) 7#5 ∧ operandField (ext 0x1FFF w) 7#5 = .known 0xFFFF#16 ∧ (ext 0x1FFF w).reg 2 = .known 0#16 ∧
      0#16 + 0xFFFF#16 = (ext 0x1FFF w).w + (7#3).setWidth 16 := ⟨legal_long _ (by decide), by decide⟩

theorem witness_StoreIntoWindow_str :
    FieldLegal { w with pc := 0xFFF8#16 } 31#5 ∧ operandField { w with pc := 0xFFF8#16 } 31#5 = .known 0xFFFF#16 ∧
      State.reg { w with pc := 0xFFF8#16 } 2 = .known 0#16 ∧
      0xFFF8#16 + 1#16 + 0xFFFF#16 + 0#16 = w.w + (0#3).setWidth 16 := ⟨legal_short _ rfl, by decide⟩

theorem witness_UndefinedAddress :
    FieldLegal w 31#5 ∧ w.reg 7 = .undefined := ⟨legal_short _ rfl, by decide⟩

theorem witness_UndefinedAddress_table :
    FieldLegal w 31#5 ∧ w.reg 6 = .known 0x2000#16 ∧ operandField w 31#5 = .known 0xFFFF#16 ∧
      w.mem.read (w.pc + 1#16 + 0xFFFF#16 + 0x2000#16) = .undefined ∧ w.mem.read (0x2000#16 + 0xFFFF#16) = .undefined :=
  ⟨legal_short _ rfl, by decide⟩

theorem witness_BusLoadResult :
    FieldLegal w 31#5 ∧ FieldLegal (ext 3 w) 7#8 := ⟨legal_short _ rfl, legal_long _ (by decide)⟩

theorem witness_BusStoreResult :
    FieldLegal w 31#5 ∧ FieldLegal (ext 3 w) 7#8 := ⟨legal_short _ rfl, legal_long _ (by decide)⟩

theorem witness_JumpResult :
    FieldLegal w 0x80#8 ∧ operandField w 0x80#8 = .known 0xFF80#16 := ⟨legal_short _ rfl, by decide⟩

theorem witness_JumpRegisterResult :
    w.reg 1 = .known 0x0101#16 ∧ FieldLegal w 31#5 ∧ operandField w 31#5 = .known 0xFFFF#16 := ⟨by decide, legal_short _ rfl, by decide⟩

theorem witness_TableJumpResult_jst :
    FieldLegal w 0#5 ∧ operandField w 0#5 = .known 0#16 ∧
      State.reg { w with pc := 0xFFF7#16 } 2 = .known 0#16 ∧ Memory.read w.mem (0xFFF7#16 + 1#16 + 0#16 + 0#16) = .known 0x1044#16 := ⟨legal_short _ rfl, by decide⟩

theorem witness_TableJumpResult_jvt :
    FieldLegal (ext 0x1FFF w) 0#5 ∧ operandField (ext 0x1FFF w) 0#5 = .known 0xFFF8#16 ∧
      (ext 0x1FFF w).reg 2 = .known 0#16 ∧ (ext 0x1FFF w).mem.read (0#16 + 0xFFF8#16) = .known 0x1044#16 := ⟨legal_long _ (by decide), by decide⟩

theorem witness_FlagBranchResult :
    FieldLegal w 0x80#8 ∧ operandField w 0x80#8 = .known 0xFF80#16 ∧ w.flags.z = .known false ∧ w.flags.s = .known true ∧
      w.flags.c = .known true ∧ w.flags.v = .known false := ⟨legal_short _ rfl, by decide⟩

theorem witness_OrderBranchResult :
    FieldLegal (ext 3 w) 7#8 ∧ operandField (ext 3 w) 7#8 = .known 0x001F#16 ∧ (ext 3 w).flags.c = .known true ∧
      (ext 3 w).flags.z = .known false ∧ (ext 3 w).flags.s = .known true ∧ (ext 3 w).flags.v = .known false := ⟨legal_long _ (by decide), by decide⟩

theorem witness_BranchOnUndefinedFlag :
    FieldLegal State.reset 0x7F#8 ∧ operandField State.reset 0x7F#8 = .known 0x007F#16 ∧
      State.reset.flags.z = .undefined ∧ State.reset.flags.s = .undefined ∧
      State.reset.flags.c = .undefined ∧ State.reset.flags.v = .undefined := ⟨legal_short _ rfl, by decide⟩

theorem witness_CompareThenBranch :
    w.reg 1 = .known 0x0101#16 ∧ w.reg 3 = .known 0xFFFF#16 := by decide

theorem witness_MultiwordArithmetic :
    (4#3 ≠ 5#3 ∧ 4#3 ≠ 1#3 ∧ 4#3 ≠ 3#3) ∧
      w.reg 0 = .known 0x1044#16 ∧ w.reg 1 = .known 0x0101#16 ∧ w.reg 2 = .known 0#16 ∧ w.reg 3 = .known 0xFFFF#16 := by decide

theorem witness_XchgExpansionSwaps :
    0#3 ≠ 7#3 ∧ (cpu [(0xFFF8, 1#16), (0xFFFF, 0xFFFF#16)]).reg 0 = .known 1#16 ∧
      (cpu [(0xFFF8, 1#16), (0xFFFF, 0xFFFF#16)]).reg 7 = .known 0xFFFF#16 := by decide

theorem witness_RoriExpansionRotates :
    15 ≤ 15 ∧ w.hasExt13 = false ∧ w.reg 1 = .known 0x0101#16 := by decide

end Sys2Proof.Tests
end

/-! # Proofs: the step

SUPPORT for the statements about `step`, and the statement that a step runs the decoded instruction. -/

namespace Sys2Proof.Machine

/-! ## Refusals of a step -/

/-- A step whose instruction goes on is refused where the word it writes does not exist (R77). -/
theorem step_of_unwritten {s t : State} {i : Instr} (h : decode s.fetchWord = .ok i)
    (hp : s.populated (.known s.pc) = true) (hr : ∀ a ∈ s.afterFetch.reads i, s.afterFetch.populated a = true)
    (hw : ¬ ∀ a ∈ s.afterFetch.writes i, s.afterFetch.populated a = true) (he : exec i s.afterFetch = .next t) :
    step s = .refused .unpopulatedMemory := by
  rw [step_of_decode h, State.inMemory_of (by simpa using hp), State.inMemory_of hr, he]
  exact State.inMemory_not hw _

/-! ## Where every word exists -/

/-- At the default parameters every access of every instruction is to a word that exists (R77). -/
theorem readsExist_writesExist_of_whole {s : State}
    (h : s.platform.memPopulated = [{ first := 0x0000#16, last := 0xFFFF#16 }]) (i : Instr) :
    ReadsExist i s ∧ WritesExist i s :=
  have exist := State.populated_of_whole h
  ⟨⟨exist _, fun a _ => exist a⟩, fun a _ => exist a⟩

/-! ## The statement -/

/-- Settles O9: a fetch of a defined word changes nothing, so each clause is one of the step's laws in the state itself. Where the
word to be written does not exist, the refusal is that of the read if a word read does not exist either, since reads come first. -/
theorem stepRunsDecodedInstruction : Obligations.StepRunsDecodedInstruction := by
  intro s w i hword hdec _
  obtain ⟨hfetch, hafter⟩ := State.fetch_known (s := s) hword
  rw [← hfetch] at hdec
  have unread : ¬ ReadsExist i s → step s = .refused .unpopulatedMemory := fun hr =>
    step_of_unread hdec (by rw [hafter]; exact hr)
  refine ⟨fun ⟨hpc, hr⟩ hw => ?runs, unread, fun hw t he => ?unwritten, fun h => readsExist_writesExist_of_whole h i⟩
  case runs =>
    have run := step_of_exist hdec hpc
    rw [hafter] at run
    exact run hr hw
  case unwritten =>
    by_cases hr : ReadsExist i s
    · obtain ⟨hpc, hr⟩ := hr
      have refusal := step_of_unwritten (t := t) hdec hpc
      rw [hafter] at refusal
      exact refusal hr hw he
    · exact unread hr

end Sys2Proof.Machine

/-! # Proofs: the state

Who writes what: for each field of the state, the lemma that says which instructions change it, read off the inversion lemma
`exec_effect`; then the statements about the state, its reset values and its invariant. -/

namespace Sys2Proof.Machine

section

variable {i : Instr} {s t : State}

/-! ## Which fields an instruction changes -/

/-- W changes only by a window move (R40). -/
theorem exec_w (h : exec i s = .next t) (hi : i.movesWindow = false) : t.w = s.w := by
  cases exec_effect h
  case window hc _ =>
    obtain ⟨moves, -⟩ := hc
    exact absurd hi (by simp [moves])
  case busLoad e | busStore e => simp [e, State.busLoad_eq, State.busStore_eq]
  case alu e | compare e | register e | exti e | nop e | st e | str e | jump e | link e => simp [e]

/-- The flags change only at the end of an ALU instruction (R50). -/
theorem exec_flags (h : exec i s = .next t) (hi : i.setsFlags = false) : t.flags = s.flags := by
  cases exec_effect h
  case alu hf _ _ _ | compare hf _ _ _ => exact absurd hi (by simp [hf])
  case window e => rcases e with e | ⟨rd, -, e⟩ <;> simp [e]
  case busLoad e | busStore e => simp [e, State.busLoad_eq, State.busStore_eq]
  case register e | exti e | nop e | st e | str e | jump e | link e => simp [e]

/-- A logic, shift or rotate instruction ends with the flags that `logicResult` gives its word. -/
theorem exec_logicOrShift_flags (h : exec i s = .next t) (hi : i.isLogicOrShift = true) :
    ∃ v, t.flags = (logicResult v).flags := by
  cases exec_effect h
  case alu hl _ e =>
    obtain ⟨v, rfl⟩ := hl hi
    exact ⟨v, by simp [e]⟩
  case compare hl _ _ | register hl _ _ | window hl _ _ | busLoad hl _ _ | busStore hl _ _ | jump hl _ _ | link hl _ _ =>
    exact absurd hi (by simp [hl])
  case exti h _ | nop h _ | st h _ _ | str h _ _ =>
    subst h
    cases hi

/-- Every instruction but EXTI clears ext13 and has_ext13 (R55). -/
theorem exec_prefixCleared (h : exec i s = .next t) (hi : i.isExti = false) : PrefixCleared t := by
  cases exec_effect h
  case exti h _ =>
    subst h
    cases hi
  case window e => rcases e with e | ⟨rd, -, e⟩ <;> simp [e, PrefixCleared]
  case busLoad e | busStore e => simp [e, PrefixCleared, State.busLoad_eq, State.busStore_eq]
  case alu e | compare e | register e | nop e | st e | str e | jump e | link e => simp [e, PrefixCleared]

/-- The class `isExti` holds EXTI alone. -/
theorem isExti_iff : i.isExti = true ↔ ∃ imm, i = .exti imm := by
  cases i <;> simp [Instr.isExti]

/-- EXTI goes on in every state, and writes ext13, has_ext13 and PC alone (R195). -/
theorem exec_exti (imm : BitVec 13) (s : State) :
    exec (.exti imm) s = .next { s with ext13 := .known imm, hasExt13 := true, pc := s.nextPc } := rfl

/-- An instruction that does not assign PC ends at the next word (R32). -/
theorem exec_pc (h : exec i s = .next t) (hi : i.assignsPc = false) : t.pc = s.pc + 1#16 := by
  cases exec_effect h
  case jump hc _ | link hc _ =>
    obtain ⟨-, -, -, assigns⟩ := hc
    exact absurd hi (by simp [assigns])
  case window e => rcases e with e | ⟨rd, -, e⟩ <;> simp [e]
  case busLoad e | busStore e => simp [e, State.busLoad_eq, State.busStore_eq]
  case alu e | compare e | register e | exti e | nop e | st e | str e => simp [e]

/-- No instruction changes the parameters (R347). -/
theorem exec_platform (h : exec i s = .next t) : t.platform = s.platform := by
  cases exec_effect h
  case window e => rcases e with e | ⟨rd, -, e⟩ <;> simp [e]
  case busLoad e | busStore e => simp [e, State.busLoad_eq, State.busStore_eq]
  case alu e | compare e | register e | exti e | nop e | st e | str e | jump e | link e => simp [e]

/-- An instruction writes at most one word of memory, at an address it stores to. -/
theorem exec_mem (h : exec i s = .next t) : t.mem = s.mem ∨ ∃ a v, StoresTo i s t a ∧ t.mem = s.mem.write a v := by
  cases exec_effect h
  case compare e | exti e | nop e | jump e => exact .inl (by simp [e])
  case busStore e => exact .inl (by simp [e, State.busStore_eq])
  case alu rd r hd _ _ _ e => exact .inr ⟨_, r.value, .inl ⟨rd, hd, rfl⟩, by simp [e]⟩
  case register rd v hd _ _ e | link rd v _ hd _ _ e => exact .inr ⟨_, v, .inl ⟨rd, hd, rfl⟩, by simp [e]⟩
  case busLoad rd a hd _ _ e =>
    exact .inr ⟨_, s.extAnswer a, .inl ⟨rd, hd, rfl⟩, by simp [e, State.busLoad_eq, State.regAddr]⟩
  case window e =>
    rcases e with e | ⟨rd, hd, e⟩
    · exact .inl (by simp [e])
    · exact .inr ⟨_, .known s.w, .inl ⟨rd, hd, rfl⟩, by simp [e]⟩
  case st rs ra off o h ho e => exact .inr ⟨_, s.reg rs, .inr (.inl ⟨rs, ra, off, o, h, ho, rfl⟩), by simp [e]⟩
  case str rs ra off o h ho e => exact .inr ⟨_, s.reg rs, .inr (.inr ⟨rs, ra, off, o, h, ho, rfl⟩), by simp [e]⟩

/-! ## The parts of the invariant -/

/-- Memory stays in its canonical form. -/
theorem exec_keeps_mem_wf (h : exec i s = .next t) (hm : s.mem.wf = true) : t.mem.wf = true := by
  rcases exec_mem h with e | ⟨a, v, -, e⟩
  · rw [e, hm]
  · rw [e]
    exact Memory.wf_write a v hm

/-- W stays a multiple of 8: a window move adds, or loads, a multiple of 8 (R42, R200 (c)). -/
theorem exec_keeps_w_aligned (h : exec i s = .next t) (hw : s.w.toNat % 8 = 0) : t.w.toNat % 8 = 0 := by
  by_cases hi : i.movesWindow = false
  · rw [exec_w h hi, hw]
  cases exec_effect h
  case window x w hx hw' _ _ e =>
    have moved : t.w = w := by rcases e with e | ⟨rd, -, e⟩ <;> simp [e]
    rcases hw' with rfl | rfl
    · rw [moved, hx]
    · rw [moved, BitVec.toNat_add]
      omega
  case alu hc _ | compare hc _ | register hc _ | busLoad hc _ | busStore hc _ | jump hc _ | link hc _ =>
    obtain ⟨stays, -⟩ := hc
    exact absurd stays hi
  case exti h _ | nop h _ | st h _ _ | str h _ _ =>
    subst h
    exact absurd rfl hi

/-- After any instruction ext13 is defined exactly while has_ext13 is 1, whatever they were before (R55). -/
theorem exec_prefix_defined (h : exec i s = .next t) : t.ext13.isKnown = t.hasExt13 := by
  by_cases hi : i.isExti = false
  · obtain ⟨hflag, hext⟩ := exec_prefixCleared h hi
    simp [hflag, hext]
  · obtain ⟨imm, rfl⟩ := isExti_iff.1 (by simpa using hi)
    rw [exec_exti] at h
    cases h
    rfl

/-- An instruction keeps the invariant. -/
theorem exec_keeps_inv (h : exec i s = .next t) (hs : s.Inv) : t.Inv := by
  obtain ⟨hm, hw, -⟩ := hs
  exact ⟨exec_keeps_mem_wf h hm, exec_keeps_w_aligned h hw, exec_prefix_defined h⟩

/-- The fetch keeps the invariant: it uses at most a free value. -/
theorem State.afterFetch_inv (hs : s.Inv) : s.afterFetch.Inv := by
  simpa [State.Inv, State.afterFetch] using hs

/-! ## A store into the window -/

/-- ST with a defined address stores Rs there. -/
theorem exec_st_known {rs ra : BitVec 3} {off : BitVec 5} {a o : Word} (hf : FieldLegal s off)
    (ho : operandField s off = .known o) (ha : s.reg ra = .known a) :
    exec (.st rs ra off) s = .next (s.storeReg rs (.known (a + o))) := by
  simp [exec, execSt, imm5_of_legal hf, ho, State.regPlus, ha]

/-- STR with a defined address stores Rs there. -/
theorem exec_str_known {rs ra : BitVec 3} {off : BitVec 5} {a o : Word} (hf : FieldLegal s off)
    (ho : operandField s off = .known o) (ha : s.reg ra = .known a) :
    exec (.str rs ra off) s = .next (s.storeReg rs (.known (s.pc + 1#16 + o + a))) := by
  simp [exec, execStr, imm5_of_legal hf, ho, State.pcPlusReg, State.pcPlus, ha]

/-- A store at the address of register `r` writes register `r`, and no other: two registers are two words. -/
theorem reg_of_storePost {r : BitVec 3} {v : Val Word} (h : StorePost s t (s.regAddr r) v) :
    t.reg r = v ∧ ∀ q, q ≠ r → t.reg q = s.reg q := by
  obtain ⟨hread, -, -, ⟨hw, -⟩, -, hframe⟩ := h
  have same (q : BitVec 3) : t.regAddr q = s.regAddr q := by simp only [State.regAddr, hw]
  refine ⟨?_, fun q hq => ?_⟩
  · rw [State.reg_eq, same, hread]
  · rw [State.reg_eq, same]
    exact hframe _ fun e => hq (s.regAddr_injective e)

/-! ## Reset with parameters -/

/-- Memory that `MEM_INIT` gave reads as `MEM_INIT` says (R76). -/
theorem Memory.read_load_of_lookup {l : List (Word × Word)} {a : Word} :
    (∀ v, l.lookup a = some v → (Memory.load l).read a = .known v) ∧
      (l.lookup a = none → (Memory.load l).read a = .undefined) := by
  rw [Memory.read_load]
  exact ⟨fun v h => by rw [h], fun h => by rw [h]⟩

/-- Reset with `RESET_HAS_EXT13` = 0 gives a state that meets the invariant: `RESET_W` is a multiple of 8 or there is none. -/
theorem State.boot_inv {p : Params} (hp : p.resetHasExt13 = false) (h : State.boot p = some s) : s.Inv := by
  obtain ⟨hw, rfl⟩ := State.boot_some.1 h
  exact ⟨Memory.wf_load p.memInit, (low3_zero_iff p.resetW).1 hw, hp.symm⟩

end

/-! ## The statements -/

/-- Settles O17: a step that goes on is an instruction that goes on after the fetch, and both keep the invariant. -/
theorem stepKeepsInv : Obligations.StepKeepsInv := by
  intro s t hs h
  obtain ⟨-, i, -, -, -, he⟩ := step_next.1 h
  exact ⟨exec_keeps_inv he (State.afterFetch_inv hs), by simp [exec_platform he, State.afterFetch]⟩

/-- Settles O18: of all the effects an instruction can have, the window move alone assigns W. -/
theorem onlyWindowInstructionsChangeW : Obligations.OnlyWindowInstructionsChangeW :=
  fun _ _ _ hi h => exec_w h hi

/-- Settles O19: the flags of `logicResult` have C and V UNDEFINED. -/
theorem flagWriters : Obligations.FlagWriters := by
  intro i s t h
  refine ⟨exec_flags h, fun hi => ?_⟩
  obtain ⟨v, hv⟩ := exec_logicOrShift_flags h hi
  exact ⟨by rw [hv]; rfl, by rw [hv]; rfl⟩

/-- Settles O20: every effect but that of EXTI ends by clearing ext13 and has_ext13, and EXTI has its own equation. -/
theorem onlyExtiLeavesPrefix : Obligations.OnlyExtiLeavesPrefix := by
  intro i s t h
  refine ⟨fun hi => (exec_prefixCleared h hi).symm, ?_⟩
  rintro imm rfl
  rw [exec_exti] at h
  cases h
  exact ⟨rfl, rfl⟩

/-- Settles O21: the next word, read modulo 65,536. -/
theorem defaultAdvance : Obligations.DefaultAdvance := by
  intro i s t hi h
  simp [exec_pc h hi]

/-- Settles O47: each address is that of register `r`, so the store is one into the window. -/
theorem storeIntoWindow : Obligations.StoreIntoWindow := by
  intro s rs ra r off a o hf ho ha
  refine ⟨fun e => ⟨_, exec_st_known hf ho ha, reg_of_storePost ?_⟩,
    fun e => ⟨_, exec_str_known hf ho ha, reg_of_storePost ?_⟩⟩
  · rw [e]
    exact storeReg_storePost s rs _
  · rw [e]
    exact storeReg_storePost s rs _

/-- Settles O14, by evaluation of the reset state. -/
theorem resetPcAndWindow : Obligations.ResetPcAndWindow := by
  refine ⟨rfl, rfl, ?_, ?_⟩ <;> decide

/-- Settles O15: the defaults by evaluation, the parameters by what `State.boot` answers. -/
theorem resetOpenState : Obligations.ResetOpenState := by
  refine ⟨State.boot_default, ?reset, fun p => ⟨?refused, ?booted⟩⟩
  case reset =>
    exact ⟨rfl, rfl, rfl, rfl, rfl, rfl, fun _ => rfl, fun _ => rfl, State.populated_of_whole rfl, rfl, rfl⟩
  case refused => rw [State.boot_none, Ne, low3_zero_iff]
  case booted =>
    intro s h
    obtain ⟨-, rfl⟩ := State.boot_some.1 h
    exact ⟨rfl, rfl, rfl, rfl, rfl, rfl, rfl, rfl, fun _ => Memory.read_load_of_lookup.1,
      fun _ => Memory.read_load_of_lookup.2⟩

/-- Settles O16: the reset state is the machine after reset with the default parameters. -/
theorem resetInv : Obligations.ResetInv :=
  ⟨State.boot_inv rfl State.boot_default, fun _ _ hp h => State.boot_inv hp h⟩

/-- Settles O37: EXTI stops nowhere, so its equation gives every clause. -/
theorem extiResult : Obligations.ExtiResult :=
  fun s imm => ⟨_, exec_exti imm s, rfl, rfl, rfl, rfl, ⟨rfl, rfl, rfl, rfl, rfl⟩, fun _ => rfl⟩

end Sys2Proof.Machine

/-! # Proofs: memory and the external bus

The four bus instructions by the transaction each makes; the words of memory an instruction reads and writes, said as what the same
instruction does in another memory; and the store that the next fetch sees. -/

namespace Sys2Proof.Machine

section

variable {s t : State}

/-! ## Instructions with a 5-bit or 8-bit field -/

/-- An operation of a 5-bit field goes on exactly where the field is legal and the rest goes on with its operand. -/
theorem orFault_imm5_next {f : BitVec 5} {k : Val Word → Answer} :
    orFault (s.imm5 f) k = .next t ↔ FieldLegal s f ∧ k (operandField s f) = .next t := by
  rcases fieldLegal_or s f with legal | ⟨long, high⟩
  · simp [imm5_of_legal legal, legal]
  · have illegal : ¬ FieldLegal s f := fun legal => absurd (legal long) (by omega)
    simp [imm5_of_illegal long high, illegal]

/-- An operation of an 8-bit field goes on exactly where the field is legal and the rest goes on with its operand. -/
theorem orFault_imm8_next {f : BitVec 8} {k : Val Word → Answer} :
    orFault (s.imm8 f) k = .next t ↔ FieldLegal s f ∧ k (operandField s f) = .next t := by
  rcases fieldLegal_or s f with legal | ⟨long, high⟩
  · simp [imm8_of_legal legal, legal]
  · have illegal : ¬ FieldLegal s f := fun legal => absurd (legal long) (by omega)
    simp [imm8_of_illegal long high, illegal]

/-! ## The bus instructions -/

/-- LDX goes on exactly with a legal field, with a bus load at the register plus the operand (R221). -/
theorem exec_ldx_next {rd ra : BitVec 3} {f : BitVec 5} : exec (.ldx rd ra f) s = .next t ↔
    FieldLegal s f ∧ s.busLoad rd (Val.map2 (· + ·) (s.reg ra) (operandField s f)) = t :=
  orFault_imm5_next.trans (and_congr_right fun _ => ⟨Host.Outcome.next.inj, congrArg _⟩)

/-- LDXA goes on exactly with a legal field, with a bus load at the operand (R222). -/
theorem exec_ldxa_next {rd : BitVec 3} {g : BitVec 8} : exec (.ldxa rd g) s = .next t ↔
    FieldLegal s g ∧ s.busLoad rd (operandField s g) = t :=
  orFault_imm8_next.trans (and_congr_right fun _ => ⟨Host.Outcome.next.inj, congrArg _⟩)

/-- STX goes on exactly with a legal field, with a bus store at the register plus the operand (R223). -/
theorem exec_stx_next {rs ra : BitVec 3} {f : BitVec 5} : exec (.stx rs ra f) s = .next t ↔
    FieldLegal s f ∧ s.busStore rs (Val.map2 (· + ·) (s.reg ra) (operandField s f)) = t :=
  orFault_imm5_next.trans (and_congr_right fun _ => ⟨Host.Outcome.next.inj, congrArg _⟩)

/-- STXA goes on exactly with a legal field, with a bus store at the operand (R224). -/
theorem exec_stxa_next {rs : BitVec 3} {g : BitVec 8} : exec (.stxa rs g) s = .next t ↔
    FieldLegal s g ∧ s.busStore rs (operandField s g) = t :=
  orFault_imm8_next.trans (and_congr_right fun _ => ⟨Host.Outcome.next.inj, congrArg _⟩)

/-- The end of a bus load. -/
theorem busLoad_busLoadPost (s : State) (rd : BitVec 3) (a : Val Word) : BusLoadPost s (s.busLoad rd a) rd a := by
  have answered : (s.busLoad rd a).reg rd = s.extAnswer a := Memory.read_write_same _ _ _
  have frame : SameMemBut s (s.busLoad rd a) (s.regAddr rd) := fun b hb => Memory.read_write_other _ _ hb
  rw [BusLoadPost, ← extAnswer_eq]
  exact ⟨rfl, answered, List.drop_one.symm, rfl, rfl, rfl, rfl, rfl, ⟨rfl, rfl⟩, frame⟩

/-- The end of a bus store. -/
theorem busStore_busStorePost (s : State) (rs : BitVec 3) (a : Val Word) :
    BusStorePost s (s.busStore rs a) a (s.reg rs) :=
  ⟨rfl, rfl, rfl, rfl, rfl, rfl, rfl, ⟨rfl, rfl⟩, fun _ => rfl⟩

/-- A bus load records the word that it leaves in Rd. -/
theorem busLoad_bus (s : State) (rd : BitVec 3) (a : Val Word) :
    (s.busLoad rd a).bus = s.bus ++ [.read a ((s.busLoad rd a).reg rd)] := by
  obtain ⟨recorded, answered, -⟩ := busLoad_busLoadPost s rd a
  rw [recorded, answered]

/-- The bus record changes only by a bus instruction (R83). -/
theorem exec_bus {i : Instr} (h : exec i s = .next t) (hi : i.usesBus = false) : t.bus = s.bus := by
  cases exec_effect h
  case busLoad hc _ | busStore hc _ =>
    obtain ⟨-, uses, -⟩ := hc
    exact absurd hi (by simp [uses])
  case window e => rcases e with e | ⟨rd, -, e⟩ <;> simp [e]
  case alu e | compare e | register e | exti e | nop e | st e | str e | jump e | link e => simp [e]

/-! ## Words copied from one memory to another -/

/-- The memory with the words that `src` has at the defined addresses of a list. -/
def Memory.copy (m src : Memory) : List (Val Word) → Memory
  | [] => m
  | .known a :: l => (m.copy src l).write a (src.read a)
  | .undefined :: l => m.copy src l

/-- It reads as `src` at the addresses of the list, and as before at all others. -/
theorem Memory.read_copy (m src : Memory) (l : List (Val Word)) (b : Word) :
    (m.copy src l).read b = if .known b ∈ l then src.read b else m.read b := by
  induction l with
  | nil => simp [Memory.copy]
  | cons x l ih =>
    cases x with
    | undefined => simp [Memory.copy, ih]
    | known a =>
      by_cases h : b = a
      · simp [Memory.copy, h]
      · simp [Memory.copy, Memory.read_write_other _ _ h, ih, h]

/-- Copying the one word just written is writing it. -/
theorem Memory.copy_write (m m' : Memory) (a : Word) (v : Val Word) : m.copy (m'.write a v) [.known a] = m.write a v := by
  simp [Memory.copy]

/-! ## The same state with another memory -/

/-- The state with memory `m` in the place of its own. -/
def State.withMem (s : State) (m : Memory) : State := { s with mem := m }

/-- Everything but memory is as it was. -/
theorem sameCpu_withMem (s : State) (m : Memory) : SameCpu s (s.withMem m) := ⟨rfl, rfl, rfl, rfl, rfl, rfl, rfl, rfl, rfl⟩

/-- `m'` has the words of `m` at every defined address of a list. -/
def SameAt (l : List (Val Word)) (m m' : Memory) : Prop := ∀ b, .known b ∈ l → m'.read b = m.read b

/-- A word of the list, at an address defined or not, is the same word in both. -/
theorem SameAt.readAt {l : List (Val Word)} {m m' : Memory} {a : Val Word} (h : SameAt l m m') (ha : a ∈ l) :
    m'.readAt a = m.readAt a := by
  cases a with
  | known b => exact h b ha
  | undefined => rfl

/-- So is a register whose word is in the list. -/
theorem SameAt.reg {l : List (Val Word)} {m : Memory} {r : BitVec 3} (h : SameAt l s.mem m) (hr : s.regWord r ∈ l) :
    (s.withMem m).reg r = s.reg r := h _ hr

/-- So is the address of a load, a store, a bus cycle or a jump that adds an offset to such a register. -/
theorem SameAt.regPlus {l : List (Val Word)} {m : Memory} {r : BitVec 3} (h : SameAt l s.mem m) (hr : s.regWord r ∈ l)
    (o : Val Word) : (s.withMem m).regPlus r o = s.regPlus r o := by
  rw [State.regPlus, h.reg hr, State.regPlus]

/-- So is the PC-relative address of LDR, STR or JST. -/
theorem SameAt.pcPlusReg {l : List (Val Word)} {m : Memory} {r : BitVec 3} (h : SameAt l s.mem m) (hr : s.regWord r ∈ l)
    (o : Val Word) : (s.withMem m).pcPlusReg r o = s.pcPlusReg r o := by
  rw [State.pcPlusReg, h.reg hr, State.pcPlusReg]
  rfl

/-- So is the target of JST, if the word of its table is in the list too. -/
theorem SameAt.switchTarget {l : List (Val Word)} {m : Memory} {r : BitVec 3} {o : Val Word} (h : SameAt l s.mem m)
    (hr : s.regWord r ∈ l) (he : s.pcPlusReg r o ∈ l) : (s.withMem m).switchTarget r o = s.switchTarget r o := by
  rw [State.switchTarget, h.pcPlusReg hr, State.switchTarget, ← h.readAt he]
  rfl

/-- So is the target of JVT, if the word of its table is in the list too. -/
theorem SameAt.virtualTarget {l : List (Val Word)} {m : Memory} {r : BitVec 3} {o : Val Word} (h : SameAt l s.mem m)
    (hr : s.regWord r ∈ l) (he : s.regPlus r o ∈ l) : (s.withMem m).virtualTarget r o = s.virtualTarget r o := by
  rw [State.virtualTarget, h.regPlus hr, h.reg hr, State.virtualTarget, ← h.readAt he]
  rfl

/-! ## Each update in another memory: the same state but for memory, and the word it wrote copied -/

section

variable (m : Memory)

@[simp] theorem State.picked_withMem {α : Type} (x : Val α) : (s.withMem m).picked x = (s.picked x).withMem m := by
  cases x <;> rfl

@[simp] theorem State.jumpTo_withMem (a : Val Word) : (s.withMem m).jumpTo a = (s.jumpTo a).withMem m := by
  cases a <;> rfl

theorem State.setReg_withMem (rd : BitVec 3) (v : Val Word) :
    (s.withMem m).setReg rd v = (s.setReg rd v).withMem (m.copy (s.setReg rd v).mem [s.regWord rd]) := by
  rw [State.setReg_mem, State.regWord, Memory.copy_write]
  rfl

theorem State.writeAlu_withMem (rd : BitVec 3) (r : AluResult) :
    (s.withMem m).writeAlu rd r = (s.writeAlu rd r).withMem (m.copy (s.writeAlu rd r).mem [s.regWord rd]) := by
  rw [State.writeAlu_mem, State.regWord, Memory.copy_write]
  rfl

theorem State.busLoad_withMem (rd : BitVec 3) (a : Val Word) :
    (s.withMem m).busLoad rd a = (s.busLoad rd a).withMem (m.copy (s.busLoad rd a).mem [s.regWord rd]) := by
  rw [State.busLoad_eq s, State.regWord, Memory.copy_write]
  rfl

/-- A bus store of the same word goes on alike. -/
theorem State.busStore_withMem {m : Memory} {rs : BitVec 3} (a : Val Word) (h : (s.withMem m).reg rs = s.reg rs) :
    (s.withMem m).busStore rs a = (s.busStore rs a).withMem m := by
  rw [State.busStore_eq, h]
  rfl

/-- A load of the same word goes on alike. -/
theorem State.load_withMem {m : Memory} (rd : BitVec 3) {a : Val Word} (h : m.readAt a = s.mem.readAt a) :
    (s.withMem m).load rd a = (s.load rd a).withMem (m.copy (s.load rd a).mem [s.regWord rd]) := by
  rw [State.load_mem, State.regWord, Memory.copy_write, ← h]
  rfl

/-- A store of the same word goes on alike. -/
theorem State.storeReg_withMem {m : Memory} {rs : BitVec 3} (a : Val Word) (h : (s.withMem m).reg rs = s.reg rs) :
    (s.withMem m).storeReg rs a = (s.storeReg rs a).withMem (m.copy (s.storeReg rs a).mem [.known (s.pick a)]) := by
  rw [State.storeReg_mem, Memory.copy_write, ← h]
  cases a <;> rfl

/-- A jump to the same target that writes one register goes on alike. -/
theorem State.setReg_jumpTo_withMem (rd : BitVec 3) (v a : Val Word) :
    ((s.withMem m).setReg rd v).jumpTo a =
      ((s.setReg rd v).jumpTo a).withMem (m.copy ((s.setReg rd v).jumpTo a).mem [s.regWord rd]) := by
  rw [State.setReg_withMem, State.jumpTo_withMem, State.jumpTo_mem]

/-- A shift of the same operands goes on alike. -/
theorem State.shift_withMem {f : Word → Nat → Word} {rd : BitVec 3} {a amount : Val Word}
    (h : s.shift f rd a amount = .next t) :
    (s.withMem m).shift f rd a amount = .next (t.withMem (m.copy t.mem [s.regWord rd])) := by
  obtain ⟨small, rfl⟩ := State.shift_next.1 h
  refine State.shift_next.2 ⟨small, ?_⟩
  rw [State.picked_withMem, State.writeAlu_withMem, State.regWord, State.regWord, State.picked_regAddr]

/-- A branch on the same condition goes on alike. -/
theorem State.branch_withMem {cond : Val Bool} {off : BitVec 8} (h : s.branch cond off = .next t) :
    (s.withMem m).branch cond off = .next (t.withMem m) := by
  obtain ⟨o, ho, rfl⟩ := State.branch_next.1 h
  refine State.branch_next.2 ⟨o, ho, ?_⟩
  rw [State.picked_withMem, State.jumpTo_withMem]
  rfl

/-- A window move by the same value goes on alike. -/
theorem State.moveWindow_withMem {given target : Word} (h : s.moveWindow given target id = .next t) :
    (s.withMem m).moveWindow given target id = .next (t.withMem m) := by
  obtain ⟨aligned, rfl⟩ := State.moveWindow_next.1 h
  exact State.moveWindow_next.2 ⟨aligned, rfl⟩

/-- So does one that saves a value in the new window. -/
theorem State.moveWindow_setReg_withMem {given target : Word} {rd : BitVec 3} {v : Val Word}
    (h : s.moveWindow given target (·.setReg rd v) = .next t) :
    (s.withMem m).moveWindow given target (·.setReg rd v) = .next (t.withMem (m.copy t.mem [newRegWord target rd])) := by
  obtain ⟨aligned, rfl⟩ := State.moveWindow_next.1 h
  exact State.moveWindow_next.2 ⟨aligned,
    (congrArg State.advance (State.setReg_withMem (s := { s with w := target }) m rd v)).symm⟩

end

/-- An operation of a field goes on alike if it ends alike with the same operand. -/
theorem orFault_withMem {α : Type} {x y : Except Fault α} {f g : α → State} {l : List (Val Word)} {m : Memory}
    (h : orFault x (fun a => .next (f a)) = .next t) (hy : y = x)
    (alike : ∀ a, x = .ok a → g a = (f a).withMem (m.copy (f a).mem l)) :
    orFault y (fun a => .next (g a)) = .next (t.withMem (m.copy t.mem l)) := by
  obtain ⟨a, ha, h⟩ := orFault_next.1 h
  rw [hy, ha, orFault_ok, alike a ha, Host.Outcome.next.inj h]

/-! ## The words an instruction reads and writes (R92) -/

/-- An instruction that goes on does so alike in any memory that has the same words where `State.reads` says, and of all words it
changes only those where `State.writes` says, to the same as before. -/
theorem exec_withMem {i : Instr} {m : Memory} (h : exec i s = .next t) (same : SameAt (s.reads i) s.mem m) :
    exec i (s.withMem m) = .next (t.withMem (m.copy t.mem (s.writes i))) := by
  cases i
  case add rd ra rb | adc rd ra rb | sub rd ra rb | sbc rd ra rb | and rd ra rb | or rd ra rb | xor rd ra rb =>
    cases h
    refine congrArg Host.Outcome.next (?_ : State.writeAlu _ _ _ = _)
    rw [same.reg (r := ra) (.head _), same.reg (r := rb) (.tail _ (.head _))]
    exact State.writeAlu_withMem m rd _
  case addi rd ra imm | adci rd ra imm | subi rd ra imm | sbci rd ra imm | andi rd ra imm | ori rd ra imm | xori rd ra imm =>
    refine orFault_withMem h rfl fun o _ => ?_
    rw [same.reg (r := ra) (.head _)]
    exact State.writeAlu_withMem m rd _
  case cmp ra rb =>
    cases h
    refine congrArg Host.Outcome.next (?_ : State.writeFlags _ _ = _)
    rw [same.reg (r := ra) (.head _), same.reg (r := rb) (.tail _ (.head _))]
    rfl
  case cmpi ra imm =>
    refine orFault_withMem h rfl fun o _ => ?_
    rw [same.reg (r := ra) (.head _)]
    rfl
  case sll rd ra rb | srl rd ra rb | sra rd ra rb | rol rd ra rb =>
    refine (?_ : State.shift _ _ _ _ _ = _)
    rw [same.reg (r := ra) (.head _), same.reg (r := rb) (.tail _ (.head _))]
    exact State.shift_withMem m h
  case slli rd ra imm | srli rd ra imm | srai rd ra imm | roli rd ra imm =>
    refine (?_ : State.shift _ _ _ _ _ = _)
    rw [same.reg (r := ra) (.head _)]
    exact State.shift_withMem m h
  case movi rd imm | movr rd imm =>
    exact orFault_withMem h rfl fun o _ => congrArg State.advance (State.setReg_withMem m rd _)
  case exti | nop =>
    cases h
    rfl
  case adjw imm =>
    obtain ⟨o, ho, h⟩ := orFault_next.1 h
    refine orFault_next.2 ⟨o, ho, ?_⟩
    rw [State.picked_withMem]
    exact State.moveWindow_withMem m h
  case ldw rd imm =>
    obtain ⟨o, ho, h⟩ := orFault_next.1 h
    refine orFault_next.2 ⟨o, ho, ?_⟩
    rw [State.picked_withMem, State.writes, ho]
    exact State.moveWindow_setReg_withMem m h
  case stw rb =>
    refine (?_ : State.moveWindow _ _ _ _ = _)
    rw [same.reg (r := rb) (.head _), State.picked_withMem]
    exact State.moveWindow_withMem m h
  case xchw rd rb =>
    rw [exec, execXchw] at h ⊢
    rw [same.reg (r := rb) (.head _), State.picked_withMem]
    exact State.moveWindow_setReg_withMem m h
  case ld rd ra off =>
    refine orFault_withMem h rfl fun o ho => ?_
    rw [State.reads, ho] at same
    rw [same.regPlus (.head _)]
    exact State.load_withMem rd (same.readAt (.tail _ (.head _)))
  case ldr rd ra off =>
    refine orFault_withMem h rfl fun o ho => ?_
    rw [State.reads, ho] at same
    rw [same.pcPlusReg (.head _)]
    exact State.load_withMem rd (same.readAt (.tail _ (.head _)))
  case st rs ra off =>
    refine orFault_withMem h rfl fun o ho => ?_
    rw [State.reads, ho] at same
    rw [same.regPlus (.head _), State.writes, ho]
    exact State.storeReg_withMem _ (same.reg (.tail _ (.head _)))
  case str rs ra off =>
    refine orFault_withMem h rfl fun o ho => ?_
    rw [State.reads, ho] at same
    rw [same.pcPlusReg (.head _), State.writes, ho]
    exact State.storeReg_withMem _ (same.reg (.tail _ (.head _)))
  case ldx rd ra off =>
    refine orFault_withMem h rfl fun o ho => ?_
    rw [State.reads, ho] at same
    rw [same.regPlus (.head _)]
    exact State.busLoad_withMem m rd _
  case ldxa rd off =>
    exact orFault_withMem h rfl fun o _ => State.busLoad_withMem m rd o
  case stx rs ra off =>
    refine orFault_withMem h rfl fun o ho => ?_
    rw [State.reads, ho] at same
    rw [same.regPlus (.head _)]
    exact State.busStore_withMem _ (same.reg (.tail _ (.head _)))
  case stxa rs off =>
    refine orFault_withMem h rfl fun o ho => ?_
    rw [State.reads, ho] at same
    exact State.busStore_withMem o (same.reg (.head _))
  case j off =>
    exact orFault_withMem h rfl fun o _ => State.jumpTo_withMem m _
  case jal rd off =>
    exact orFault_withMem h rfl fun o _ => State.setReg_jumpTo_withMem m rd _ _
  case jr rs off =>
    refine orFault_withMem h rfl fun o ho => ?_
    rw [State.reads, ho] at same
    rw [same.regPlus (.head _)]
    exact State.jumpTo_withMem m _
  case jral rd rb =>
    cases h
    refine congrArg Host.Outcome.next (?_ : State.jumpTo _ _ = _)
    rw [same.reg (r := rb) (.head _)]
    exact State.setReg_jumpTo_withMem m rd _ _
  case jst rs off =>
    refine orFault_withMem h rfl fun o ho => ?_
    rw [State.reads, ho] at same
    rw [same.switchTarget (.head _) (.tail _ (.head _))]
    exact State.jumpTo_withMem m _
  case jvt rs off =>
    refine orFault_withMem h rfl fun o ho => ?_
    rw [State.reads, ho] at same
    rw [same.virtualTarget (.head _) (.tail _ (.head _))]
    exact State.jumpTo_withMem m _
  all_goals exact State.branch_withMem m h

/-- An instruction changes no word but the one that `State.writes` says. -/
theorem exec_mem_of_not_writes {i : Instr} (h : exec i s = .next t) {b : Word} (hb : .known b ∉ s.writes i) :
    t.mem.read b = s.mem.read b := by
  have again : exec i s = .next (t.withMem (s.mem.copy t.mem (s.writes i))) := exec_withMem h fun _ _ => rfl
  rw [h] at again
  rw [Host.Outcome.next.inj again]
  exact (Memory.read_copy _ _ _ _).trans (if_neg hb)

/-- An instruction changes no word that it does not store to. -/
theorem exec_mem_of_not_storesTo {i : Instr} (h : exec i s = .next t) {b : Word} (hb : ∀ a, StoresTo i s t a → b ≠ a) :
    t.mem.read b = s.mem.read b := by
  rcases exec_mem h with e | ⟨a, v, stores, e⟩
  · rw [e]
  · rw [e, Memory.read_write_other _ _ (hb a stores)]

/-! ## A store that the next fetch sees -/

/-- A step at a defined word that decodes runs that instruction, where the words it accesses exist. -/
theorem step_of_word {x : Word} {i : Instr} (hword : s.mem.read s.pc = .known x) (hdec : decode x = .ok i)
    (hr : ReadsExist i s) (hw : WritesExist i s) : step s = exec i s := by
  obtain ⟨hfetch, hafter⟩ := State.fetch_known (s := s) hword
  obtain ⟨hpc, hr⟩ := hr
  rw [← hfetch] at hdec
  have run := step_of_exist hdec hpc
  rw [hafter] at run
  exact run hr (.inl hw)

/-- After a store at the next word the step that follows runs what was stored (R87). -/
theorem step_of_storePost {x : Word} {i : Instr} (h : StorePost s t (s.pc + 1#16) (.known x)) (hdec : decode x = .ok i) :
    t.pc = s.pc + 1#16 ∧ (ReadsExist i t → WritesExist i t → step t = exec i t) := by
  obtain ⟨stored, hpc, -⟩ := h
  rw [← hpc] at stored
  exact ⟨hpc, step_of_word stored hdec⟩

end

/-! ## The statements -/

/-- Settles O12: both addresses are the next word, and a store there is what the next step fetches. -/
theorem storeReachesNextFetch : Obligations.StoreReachesNextFetch := by
  intro s rs ra off a o x i hf ho ha hx hdec
  have stored : StorePost s (s.storeReg rs (.known (s.pc + 1#16))) (s.pc + 1#16) (.known x) :=
    hx ▸ storeReg_storePost s rs (s.pc + 1#16)
  refine ⟨fun e => ⟨_, ?st, step_of_storePost stored hdec⟩, fun e => ⟨_, ?str, step_of_storePost stored hdec⟩⟩
  case st => rw [exec_st_known hf ho ha, e]
  case str => rw [exec_str_known hf ho ha, BitVec.add_assoc, e, BitVec.add_zero]

/-- Settles O22: the four bus instructions by their equations, all others by the effect they have. -/
theorem busTransactions : Obligations.BusTransactions := by
  intro i s t h
  refine ⟨exec_bus h, ?ldx, ?ldxa, ?stx, ?stxa⟩
  case ldx =>
    rintro rd ra off rfl
    obtain ⟨-, rfl⟩ := exec_ldx_next.1 h
    exact busLoad_bus s rd _
  case ldxa =>
    rintro rd off rfl
    obtain ⟨-, rfl⟩ := exec_ldxa_next.1 h
    exact busLoad_bus s rd _
  case stx =>
    rintro rs ra off rfl
    obtain ⟨-, rfl⟩ := exec_stx_next.1 h
    rfl
  case stxa =>
    rintro rs off rfl
    obtain ⟨-, rfl⟩ := exec_stxa_next.1 h
    rfl

/-- Settles O23: the run in the other memory ends in the same state but for memory, with the word written copied into it. -/
theorem memoryFrame : Obligations.MemoryFrame := by
  intro i s t h
  refine ⟨fun b => exec_mem_of_not_storesTo h, fun b => exec_mem_of_not_writes h, fun m same => ?_⟩
  refine ⟨_, exec_withMem h same, sameCpu_withMem t _, fun b hb => ?_⟩
  exact (Memory.read_copy _ _ _ _).trans (if_pos hb)

/-- Settles O48: a legal field gives the operand, and a bus load is one read cycle. -/
theorem busLoadResult : Obligations.BusLoadResult :=
  fun s rd _ _ _ => ⟨fun hf => ⟨_, exec_ldx_next.2 ⟨hf, rfl⟩, busLoad_busLoadPost s rd _⟩,
    fun hg => ⟨_, exec_ldxa_next.2 ⟨hg, rfl⟩, busLoad_busLoadPost s rd _⟩⟩

/-- Settles O49: a legal field gives the operand, and a bus store is one write cycle. -/
theorem busStoreResult : Obligations.BusStoreResult :=
  fun s rs _ _ _ => ⟨fun hf => ⟨_, exec_stx_next.2 ⟨hf, rfl⟩, busStore_busStorePost s rs _⟩,
    fun hg => ⟨_, exec_stxa_next.2 ⟨hg, rfl⟩, busStore_busStorePost s rs _⟩⟩

end Sys2Proof.Machine

/-! # Proofs: the encoding

A word is put together again from its fields, in each format. So a word that a branch of the decoder accepts, and a word that
matches a row of the opcode map, is the word of an instruction that has the word's fields as its operands. -/

namespace Sys2Proof

section

variable {w : Word} {i : Instr}

/-! ## A word from its fields (R104 to R110) -/

theorem encodeR3_fields (w : Word) : encodeR3 (fieldMajor w) (fieldD w) (fieldA w) (fieldType w) (fieldB w) = w := by
  refine BitVec.eq_of_getLsbD_eq fun i hi => ?_
  simp only [Laws.encodeR3_bit, fieldMajor, fieldD, fieldA, fieldType, fieldB, BitVec.getLsbD_extractLsb']
  interval_cases i <;> simp

theorem encodeM5_fields (w : Word) : encodeM5 (fieldMajor w) (fieldD w) (fieldA w) (field5 w) = w := by
  refine BitVec.eq_of_getLsbD_eq fun i hi => ?_
  simp only [Laws.encodeM5_bit, fieldMajor, fieldD, fieldA, field5, BitVec.getLsbD_extractLsb']
  interval_cases i <;> simp

theorem encodeI8_fields (w : Word) : encodeI8 (fieldMajor w) (fieldD w) (field8 w) = w := by
  refine BitVec.eq_of_getLsbD_eq fun i hi => ?_
  simp only [Laws.encodeI8_bit, fieldMajor, fieldD, field8, BitVec.getLsbD_extractLsb']
  interval_cases i <;> simp

/-- Format B fixes the upper four bits of the opcode; the lowest is the highest of F and cond. -/
theorem encodeB_fields (h : (fieldMajor w).toNat / 2 = 0b1011) : encodeB (fieldCond w) (field8 w) = w := by
  replace h : (fieldMajor w).extractLsb' 1 4 = 0b1011#4 := by
    generalize fieldMajor w = m at h
    revert m
    decide
  refine BitVec.eq_of_getLsbD_eq fun i hi => ?_
  rw [Laws.encodeB_bit, ← h]
  simp only [fieldMajor, fieldCond, field8, BitVec.getLsbD_extractLsb']
  interval_cases i <;> simp

/-- Format E fixes the upper three bits of the opcode; the lower two are the highest of the immediate. -/
theorem encodeE_fields (h : (fieldMajor w).toNat / 4 = 0b110) : encodeE (field13 w) = w := by
  replace h : (fieldMajor w).extractLsb' 2 3 = 0b110#3 := by
    generalize fieldMajor w = m at h
    revert m
    decide
  refine BitVec.eq_of_getLsbD_eq fun i hi => ?_
  rw [Laws.encodeE_bit, ← h]
  simp only [fieldMajor, field13, BitVec.getLsbD_extractLsb']
  interval_cases i <;> simp

section

variable {m : BitVec 5} {d a b : BitVec 3} {t : BitVec 2} {f : BitVec 5} {g : BitVec 8} {c : BitVec 4}

theorem encodeR3_of (hm : fieldMajor w = m) (hd : fieldD w = d) (ha : fieldA w = a) (ht : fieldType w = t)
    (hb : fieldB w = b) : encodeR3 m d a t b = w := by
  rw [← hm, ← hd, ← ha, ← ht, ← hb, encodeR3_fields]

theorem encodeM5_of (hm : fieldMajor w = m) (hd : fieldD w = d) (ha : fieldA w = a) (hf : field5 w = f) :
    encodeM5 m d a f = w := by
  rw [← hm, ← hd, ← ha, ← hf, encodeM5_fields]

theorem encodeI8_of (hm : fieldMajor w = m) (hd : fieldD w = d) (hg : field8 w = g) : encodeI8 m d g = w := by
  rw [← hm, ← hd, ← hg, encodeI8_fields]

theorem encodeB_of (hm : (fieldMajor w).toNat / 2 = 0b1011) (hc : fieldCond w = c) (hg : field8 w = g) :
    encodeB c g = w := by
  rw [← hc, ← hg, encodeB_fields hm]

end

/-- A 2-bit field has one of four values. -/
theorem bits2_cases (t : BitVec 2) : t = 0b00#2 ∨ t = 0b01#2 ∨ t = 0b10#2 ∨ t = 0b11#2 := by
  revert t
  decide

/-- A 3-bit field has one of eight values. -/
theorem bits3_cases (a : BitVec 3) : a = 0b000#3 ∨ a = 0b001#3 ∨ a = 0b010#3 ∨ a = 0b011#3 ∨
    a = 0b100#3 ∨ a = 0b101#3 ∨ a = 0b110#3 ∨ a = 0b111#3 := by
  revert a
  decide

/-! ## The decoder by its groups (R103) -/

theorem decode_of_logic (h : fieldMajor w = 0b00000#5) : decode w = decodeLogic w := by rw [decode, h]; rfl
theorem decode_of_logicImm (h : fieldMajor w = 0b00001#5) : decode w = decodeLogicImm w := by rw [decode, h]; rfl
theorem decode_of_arith (h : fieldMajor w = 0b00010#5) : decode w = .ok (decodeArith w) := by rw [decode, h]; rfl
theorem decode_of_arithImm (h : fieldMajor w = 0b00011#5) : decode w = .ok (decodeArithImm w) := by rw [decode, h]; rfl
theorem decode_of_shift (h : fieldMajor w = 0b00100#5) : decode w = .ok (decodeShift w) := by rw [decode, h]; rfl
theorem decode_of_shiftImm (h : fieldMajor w = 0b00101#5) : decode w = .ok (decodeShiftImm w) := by rw [decode, h]; rfl
theorem decode_of_control (h : fieldMajor w = 0b10100#5) : decode w = decodeControl w := by rw [decode, h]; rfl

theorem decode_encodeB (c : BitVec 4) (g : BitVec 8) : decode (encodeB c g) = decodeBranch (encodeB c g) := by
  rcases Laws.fieldMajor_encodeB c g with h | h <;> rw [decode, h] <;> rfl

theorem decode_encodeE (imm : BitVec 13) : decode (encodeE imm) = .ok (.exti imm) := by
  rcases Laws.fieldMajor_encodeE imm with h | h | h | h <;> rw [decode, h, Laws.field13_encodeE] <;> rfl

/-! ## What each group accepts -/

/-- `i` is an instruction whose word is `w`. -/
def IsWordOf (i : Instr) (w : Word) : Prop := encode i = w ∧ i.wellFormed = true

/-- A word that is an instruction on a condition. -/
theorem guarded_eq_ok {p : Prop} [Decidable p] {j : Instr} {why : Unlisted} :
    (if p then .ok j else .error why : Except Unlisted Instr) = .ok i ↔ p ∧ j = i := by
  split_ifs with h <;> simp [h]

theorem isWordOf_decodeArith (hm : fieldMajor w = 0b00010#5) : IsWordOf (decodeArith w) w := by
  rcases bits2_cases (fieldType w) with ht | ht | ht | ht <;> rw [decodeArith, ht] <;>
    exact ⟨encodeR3_of hm rfl rfl ht rfl, rfl⟩

theorem isWordOf_decodeArithImm (hm : fieldMajor w = 0b00011#5) : IsWordOf (decodeArithImm w) w := by
  rcases bits2_cases (fieldType w) with ht | ht | ht | ht <;> rw [decodeArithImm, ht] <;>
    exact ⟨encodeR3_of hm rfl rfl ht rfl, rfl⟩

theorem isWordOf_decodeShift (hm : fieldMajor w = 0b00100#5) : IsWordOf (decodeShift w) w := by
  rcases bits2_cases (fieldType w) with ht | ht | ht | ht <;> rw [decodeShift, ht] <;>
    exact ⟨encodeR3_of hm rfl rfl ht rfl, rfl⟩

theorem isWordOf_decodeShiftImm (hm : fieldMajor w = 0b00101#5) : IsWordOf (decodeShiftImm w) w := by
  rcases bits2_cases (fieldType w) with ht | ht | ht | ht <;> rw [decodeShiftImm, ht] <;>
    exact ⟨encodeR3_of hm rfl rfl ht rfl, rfl⟩

theorem isWordOf_of_decodeLogic (hm : fieldMajor w = 0b00000#5) (h : decodeLogic w = .ok i) : IsWordOf i w := by
  rcases bits2_cases (fieldType w) with ht | ht | ht | ht <;> rw [decodeLogic, ht] at h
  case inr.inr.inr =>
    obtain ⟨hd, rfl⟩ := guarded_eq_ok.1 h
    exact ⟨encodeR3_of hm hd rfl ht rfl, rfl⟩
  all_goals
    cases h
    exact ⟨encodeR3_of hm rfl rfl ht rfl, rfl⟩

theorem isWordOf_of_decodeLogicImm (hm : fieldMajor w = 0b00001#5) (h : decodeLogicImm w = .ok i) : IsWordOf i w := by
  rcases bits2_cases (fieldType w) with ht | ht | ht | ht <;> rw [decodeLogicImm, ht] at h
  case inr.inr.inr =>
    obtain ⟨hd, rfl⟩ := guarded_eq_ok.1 h
    exact ⟨encodeR3_of hm hd rfl ht rfl, rfl⟩
  all_goals
    cases h
    exact ⟨encodeR3_of hm rfl rfl ht rfl, rfl⟩

/-- In the control group the sub-opcode says which of the other fixed bits are tested: those of STW, XCHW, ADJW and JRAL. -/
theorem isWordOf_of_decodeControl (hm : fieldMajor w = 0b10100#5) (h : decodeControl w = .ok i) : IsWordOf i w := by
  rcases bits3_cases (fieldA w) with ha | ha | ha | ha | ha | ha | ha | ha <;> rw [decodeControl, ha] at h
  case inl =>
    obtain ⟨⟨hd, ht⟩, rfl⟩ := guarded_eq_ok.1 h
    exact ⟨encodeR3_of hm hd ha ht rfl, rfl⟩
  case inr.inl | inr.inr.inr.inr.inr.inl =>
    obtain ⟨ht, rfl⟩ := guarded_eq_ok.1 h
    exact ⟨encodeR3_of hm rfl ha ht rfl, rfl⟩
  case inr.inr.inl =>
    obtain ⟨hd, rfl⟩ := guarded_eq_ok.1 h
    exact ⟨encodeM5_of hm hd ha rfl, rfl⟩
  all_goals
    cases h
    exact ⟨encodeM5_of hm rfl ha rfl, rfl⟩

theorem isWordOf_of_decodeBranch (hm : (fieldMajor w).toNat / 2 = 0b1011) (h : decodeBranch w = .ok i) :
    IsWordOf i w := by
  have word {c g} (hc : (fieldCond w).toNat = BitVec.toNat c) (hg : field8 w = g) : encodeB c g = w :=
    encodeB_of hm (BitVec.eq_of_toNat_eq hc) hg
  unfold decodeBranch at h
  split at h
  case h_8 hc =>
    obtain ⟨hg, rfl⟩ := guarded_eq_ok.1 h
    exact ⟨word hc hg, rfl⟩
  case h_16 =>
    cases h
    have last : (fieldCond w).toNat = (0b1111#4).toNat := by grind [(fieldCond w).isLt]
    exact ⟨word last rfl, rfl⟩
  all_goals
    rename_i hc
    cases h
    exact ⟨word hc rfl, rfl⟩

/-- A word that the decoder accepts is the word of the instruction that it gives. -/
theorem isWordOf_of_decode (h : decode w = .ok i) : IsWordOf i w := by
  have major {m} (hm : (fieldMajor w).toNat = BitVec.toNat m) : fieldMajor w = m := BitVec.eq_of_toNat_eq hm
  unfold decode at h
  split at h
  case h_1 hm => exact isWordOf_of_decodeLogic (major hm) h
  case h_2 hm => exact isWordOf_of_decodeLogicImm (major hm) h
  case h_3 hm => cases h; exact isWordOf_decodeArith (major hm)
  case h_4 hm => cases h; exact isWordOf_decodeArithImm (major hm)
  case h_5 hm => cases h; exact isWordOf_decodeShift (major hm)
  case h_6 hm => cases h; exact isWordOf_decodeShiftImm (major hm)
  case h_9 hm | h_10 hm | h_11 hm | h_12 hm | h_13 hm | h_15 hm => cases h; exact ⟨encodeM5_of (major hm) rfl rfl rfl, rfl⟩
  case h_14 hm | h_16 hm | h_17 hm | h_18 hm | h_22 hm => cases h; exact ⟨encodeI8_of (major hm) rfl rfl, rfl⟩
  case h_21 hm => exact isWordOf_of_decodeControl (major hm) h
  case h_23 hm | h_24 hm => exact isWordOf_of_decodeBranch (by rw [hm]) h
  case h_25 hm | h_26 hm | h_27 hm | h_28 hm => cases h; exact ⟨encodeE_fields (by rw [hm]), rfl⟩
  case h_7 | h_8 | h_19 | h_20 | h_29 => cases h

/-! ## What a word that matches a row of the opcode map is (R120) -/

theorem fieldMajor_and (w k : Word) : fieldMajor (w &&& k) = fieldMajor w &&& fieldMajor k := BitVec.extractLsb'_and
theorem fieldCond_and (w k : Word) : fieldCond (w &&& k) = fieldCond w &&& fieldCond k := BitVec.extractLsb'_and

section

variable {m : BitVec 5} {d a : BitVec 3} {t : BitVec 2} {c : BitVec 4}

theorem encodeR3_of_F818 (h : w &&& 0xF818#16 = encodeR3 m 0#3 0#3 t 0#3) :
    encodeR3 m (fieldD w) (fieldA w) t (fieldB w) = w := by
  rw [← encodeR3_fields w, Laws.encodeR3_mask_F818] at h
  exact encodeR3_of (by simpa using congrArg fieldMajor h) rfl rfl (by simpa using congrArg fieldType h) rfl

theorem encodeR3_of_FF18 (h : w &&& 0xFF18#16 = encodeR3 m d 0#3 t 0#3) : encodeR3 m d (fieldA w) t (fieldB w) = w := by
  rw [← encodeR3_fields w, Laws.encodeR3_mask_FF18] at h
  exact encodeR3_of (by simpa using congrArg fieldMajor h) (by simpa using congrArg fieldD h) rfl
    (by simpa using congrArg fieldType h) rfl

theorem encodeR3_of_F8F8 (h : w &&& 0xF8F8#16 = encodeR3 m 0#3 a t 0#3) : encodeR3 m (fieldD w) a t (fieldB w) = w := by
  rw [← encodeR3_fields w, Laws.encodeR3_mask_F8F8] at h
  exact encodeR3_of (by simpa using congrArg fieldMajor h) rfl (by simpa using congrArg fieldA h)
    (by simpa using congrArg fieldType h) rfl

theorem encodeR3_of_FFF8 (h : w &&& 0xFFF8#16 = encodeR3 m d a t 0#3) : encodeR3 m d a t (fieldB w) = w := by
  rw [← encodeR3_fields w, Laws.encodeR3_mask_FFF8] at h
  exact encodeR3_of (by simpa using congrArg fieldMajor h) (by simpa using congrArg fieldD h)
    (by simpa using congrArg fieldA h) (by simpa using congrArg fieldType h) rfl

theorem encodeM5_of_F800 (h : w &&& 0xF800#16 = encodeM5 m 0#3 0#3 0#5) :
    encodeM5 m (fieldD w) (fieldA w) (field5 w) = w := by
  rw [← encodeM5_fields w, Laws.encodeM5_mask_F800] at h
  exact encodeM5_of (by simpa using congrArg fieldMajor h) rfl rfl rfl

theorem encodeM5_of_F8E0 (h : w &&& 0xF8E0#16 = encodeM5 m 0#3 a 0#5) : encodeM5 m (fieldD w) a (field5 w) = w := by
  rw [← encodeM5_fields w, Laws.encodeM5_mask_F8E0] at h
  exact encodeM5_of (by simpa using congrArg fieldMajor h) rfl (by simpa using congrArg fieldA h) rfl

theorem encodeM5_of_FFE0 (h : w &&& 0xFFE0#16 = encodeM5 m d a 0#5) : encodeM5 m d a (field5 w) = w := by
  rw [← encodeM5_fields w, Laws.encodeM5_mask_FFE0] at h
  exact encodeM5_of (by simpa using congrArg fieldMajor h) (by simpa using congrArg fieldD h)
    (by simpa using congrArg fieldA h) rfl

theorem encodeI8_of_F800 (h : w &&& 0xF800#16 = encodeI8 m 0#3 0#8) : encodeI8 m (fieldD w) (field8 w) = w := by
  rw [← encodeI8_fields w, Laws.encodeI8_mask_F800] at h
  exact encodeI8_of (by simpa using congrArg fieldMajor h) rfl rfl

theorem encodeB_of_FF00 (h : w &&& 0xFF00#16 = encodeB c 0#8) : encodeB c (field8 w) = w := by
  have hm : fieldMajor w = fieldMajor (encodeB c 0#8) := by
    rw [← h, fieldMajor_and]
    exact BitVec.and_allOnes.symm
  have hc : fieldCond w = c := by
    rw [← Laws.fieldCond_encodeB c 0#8, ← h, fieldCond_and]
    exact BitVec.and_allOnes.symm
  refine encodeB_of ?_ hc rfl
  rcases Laws.fieldMajor_encodeB c 0#8 with hb | hb <;> rw [hm, hb] <;> rfl

theorem encodeE_of_E000 (h : w &&& 0xE000#16 = encodeE 0#13) : encodeE (field13 w) = w := by
  have hm : fieldMajor w &&& 0b11100#5 = 0b11000#5 := (fieldMajor_and w _).symm.trans (congrArg fieldMajor h)
  refine encodeE_fields ?_
  generalize fieldMajor w = m at hm
  revert m
  decide

theorem encode_nop_of_FFFF (h : w &&& 0xFFFF#16 = 0xB700#16) : encode .nop = w :=
  h.symm.trans BitVec.and_allOnes

end

/-- The instruction of each row, in the order of `opcodeRows`, with the fields of `w` as its operands. -/
def readings (w : Word) : List Instr :=
  let d := fieldD w; let a := fieldA w; let b := fieldB w; let f := field5 w; let g := field8 w
  [.and d a b, .or d a b, .xor d a b, .cmp a b, .andi d a b, .ori d a b, .xori d a b, .cmpi a b,
   .add d a b, .adc d a b, .sub d a b, .sbc d a b, .addi d a b, .adci d a b, .subi d a b, .sbci d a b,
   .sll d a b, .rol d a b, .srl d a b, .sra d a b, .slli d a b, .roli d a b, .srli d a b, .srai d a b,
   .ld d a f, .ldr d a f, .st d a f, .str d a f, .ldx d a f, .ldxa d g, .stx d a f, .stxa d g,
   .movi d g, .movr d g, .stw b, .xchw d b, .adjw f, .ldw d f, .jr d f, .jral d b, .jvt d f, .jst d f,
   .jal d g, .bz0 g, .bs0 g, .bc0 g, .bv0 g, .bgtu g, .bges g, .bgts g, .nop, .bz1 g, .bs1 g, .bc1 g, .bv1 g,
   .bleu g, .blts g, .bles g, .j g, .exti (field13 w)]

theorem readings_row (w : Word) : (readings w).map Instr.row = opcodeRows := rfl

theorem readings_wellFormed (w : Word) : ∀ i ∈ readings w, i.wellFormed = true := List.all_eq_true.1 rfl

/-- The bits that a row's mask leaves out are operands, so a reading whose row the word matches has the word itself. The cases are
the masks of R120. -/
theorem encode_of_mem_readings (hi : i ∈ readings w) (h : w &&& i.row.mask = i.row.pattern) : encode i = w := by
  cases i
  case add | adc | sub | sbc | addi | adci | subi | sbci | and | or | xor | andi | ori | xori
    | sll | srl | sra | rol | slli | srli | srai | roli =>
    obtain ⟨rfl, rfl, rfl⟩ := by simpa [readings] using hi
    exact encodeR3_of_F818 h
  case cmp | cmpi =>
    obtain ⟨rfl, rfl⟩ := by simpa [readings] using hi
    exact encodeR3_of_FF18 h
  case xchw | jral =>
    obtain ⟨rfl, rfl⟩ := by simpa [readings] using hi
    exact encodeR3_of_F8F8 h
  case stw =>
    obtain rfl := by simpa [readings] using hi
    exact encodeR3_of_FFF8 h
  case ld | ldr | st | str | ldx | stx =>
    obtain ⟨rfl, rfl, rfl⟩ := by simpa [readings] using hi
    exact encodeM5_of_F800 h
  case ldw | jr | jvt | jst =>
    obtain ⟨rfl, rfl⟩ := by simpa [readings] using hi
    exact encodeM5_of_F8E0 h
  case adjw =>
    obtain rfl := by simpa [readings] using hi
    exact encodeM5_of_FFE0 h
  case movi | movr | ldxa | stxa | jal =>
    obtain ⟨rfl, rfl⟩ := by simpa [readings] using hi
    exact encodeI8_of_F800 h
  case bgts | bgtu | bges | bles | bleu | blts | bz1 | bz0 | bs1 | bs0 | bc1 | bc0 | bv1 | bv0 | j =>
    obtain rfl := by simpa [readings] using hi
    exact encodeB_of_FF00 h
  case nop => exact encode_nop_of_FFFF h
  case exti =>
    obtain rfl := by simpa [readings] using hi
    exact encodeE_of_E000 h
  case beq | bgeu | bltu | bne | bz | bnz | bs | bns | bc | bnc | bv | bnv => exact absurd hi (by simp [readings])

/-- A word that matches a row of the opcode map is the word of an instruction of that row. -/
theorem exists_isWordOf_of_matches {r : OpcodeRow} (hr : r ∈ opcodeRows) (h : r.matches w = true) :
    ∃ i, IsWordOf i w ∧ i.row = r := by
  rw [← readings_row w] at hr
  obtain ⟨i, hi, rfl⟩ := List.mem_map.1 hr
  exact ⟨i, ⟨encode_of_mem_readings hi (beq_iff_eq.1 h), readings_wellFormed w i hi⟩, rfl⟩

theorem row_mem_opcodeRows (i : Instr) : i.row ∈ opcodeRows := by
  cases i <;> simp [Instr.row, opcodeRows]

/-! ## The words that no group accepts (R122) -/

theorem fieldMajor_toNat (w : Word) : (fieldMajor w).toNat = w.toNat / 2048 := by
  simp [fieldMajor, Nat.shiftRight_eq_div_pow]
  omega

theorem fieldD_toNat (w : Word) : (fieldD w).toNat = w.toNat / 256 % 8 := by
  simp [fieldD, Nat.shiftRight_eq_div_pow]

theorem fieldA_toNat (w : Word) : (fieldA w).toNat = w.toNat / 32 % 8 := by
  simp [fieldA, Nat.shiftRight_eq_div_pow]

theorem fieldType_toNat (w : Word) : (fieldType w).toNat = w.toNat / 8 % 4 := by
  simp [fieldType, Nat.shiftRight_eq_div_pow]

theorem fieldCond_toNat (w : Word) : (fieldCond w).toNat = w.toNat / 256 % 16 := by
  simp [fieldCond, Nat.shiftRight_eq_div_pow]

theorem field8_toNat (w : Word) : (field8 w).toNat = w.toNat % 256 := by
  simp [field8]

/-- The decoder's answer is that the word is no instruction. -/
def Refused (x : Except Unlisted Instr) : Prop := ∃ why, x = .error why

theorem refused_error (why : Unlisted) : Refused (.error why) := ⟨why, rfl⟩

theorem not_refused_ok (i : Instr) : ¬ Refused (.ok i) := fun ⟨_, h⟩ => nomatch h

theorem refused_guarded {p : Prop} [Decidable p] {why : Unlisted} :
    Refused (if p then .ok i else .error why) ↔ ¬ p := by
  split_ifs with h <;> simp [h, refused_error, not_refused_ok]

theorem refused_decodeLogic : Refused (decodeLogic w) ↔ w.toNat / 8 % 4 = 3 ∧ w.toNat / 256 % 8 ≠ 0 := by
  rw [← fieldType_toNat, ← fieldD_toNat]
  rcases bits2_cases (fieldType w) with ht | ht | ht | ht <;> rw [decodeLogic, ht]
  case inr.inr.inr => simp [refused_guarded, ← BitVec.toNat_inj]
  all_goals simp [not_refused_ok]

theorem refused_decodeLogicImm : Refused (decodeLogicImm w) ↔ w.toNat / 8 % 4 = 3 ∧ w.toNat / 256 % 8 ≠ 0 := by
  rw [← fieldType_toNat, ← fieldD_toNat]
  rcases bits2_cases (fieldType w) with ht | ht | ht | ht <;> rw [decodeLogicImm, ht]
  case inr.inr.inr => simp [refused_guarded, ← BitVec.toNat_inj]
  all_goals simp [not_refused_ok]

theorem refused_decodeControl : Refused (decodeControl w) ↔
    (w.toNat / 32 % 8 = 0 ∧ (w.toNat / 256 % 8 ≠ 0 ∨ w.toNat / 8 % 4 ≠ 0)) ∨
    (w.toNat / 32 % 8 = 1 ∧ w.toNat / 8 % 4 ≠ 0) ∨
    (w.toNat / 32 % 8 = 2 ∧ w.toNat / 256 % 8 ≠ 0) ∨
    (w.toNat / 32 % 8 = 5 ∧ w.toNat / 8 % 4 ≠ 0) := by
  rw [← fieldA_toNat, ← fieldType_toNat, ← fieldD_toNat]
  rcases bits3_cases (fieldA w) with ha | ha | ha | ha | ha | ha | ha | ha <;> rw [decodeControl, ha] <;>
    simp [refused_guarded, not_refused_ok, ← BitVec.toNat_inj]
  omega

theorem refused_decodeBranch : Refused (decodeBranch w) ↔ w.toNat / 256 % 16 = 7 ∧ w.toNat % 256 ≠ 0 := by
  rw [← fieldCond_toNat, ← field8_toNat]
  unfold decodeBranch
  split
  case h_8 hc => simp [refused_guarded, hc, ← BitVec.toNat_inj]
  all_goals grind [not_refused_ok]

/-! ## Second names (R124, R133) -/

theorem Instr.canonical_wellFormed (i : Instr) : i.canonical.wellFormed = true := by cases i <;> rfl

theorem encode_canonical (i : Instr) : encode i.canonical = encode i := by cases i <;> rfl

theorem Machine.exec_canonical (i : Instr) (s : Machine.State) :
    Machine.exec i.canonical s = Machine.exec i s := by cases i <;> rfl

end

/-! ## The statements -/

/-- Settles O1, by the groups of the decoder: each field is read back from the place it was put, and leads to the same arm. -/
theorem decodeEncodeRoundTrip : Obligations.DecodeEncodeRoundTrip := by
  intro i hi
  cases i
  case add | adc | sub | sbc => simp [encode, decode_of_arith, decodeArith]
  case addi | adci | subi | sbci => simp [encode, decode_of_arithImm, decodeArithImm]
  case and | or | xor | cmp => simp [encode, decode_of_logic, decodeLogic]
  case andi | ori | xori | cmpi => simp [encode, decode_of_logicImm, decodeLogicImm]
  case sll | srl | sra | rol => simp [encode, decode_of_shift, decodeShift]
  case slli | srli | srai | roli => simp [encode, decode_of_shiftImm, decodeShiftImm]
  case stw | xchw | adjw | ldw | jr | jral | jst | jvt => simp [encode, decode_of_control, decodeControl]
  case ld | ldr | st | str | ldx | stx | movi | movr | ldxa | stxa | jal => simp [encode, decode]
  case bgts | bgtu | bges | bles | bleu | blts | bz1 | bz0 | bs1 | bs0 | bc1 | bc0 | bv1 | bv0 | j | nop =>
    simp [encode, decode_encodeB, decodeBranch]
  case exti imm => exact decode_encodeE imm
  case beq | bgeu | bltu | bne | bz | bnz | bs | bns | bc | bnc | bv | bnv => cases hi

/-- Settles O2: each branch of the decoder knows the fixed fields of the word, and the operands are the others. -/
theorem encodeDecodeRoundTrip : Obligations.EncodeDecodeRoundTrip := fun _ _ => isWordOf_of_decode

/-- The decoder gives an instruction exactly for its word. -/
theorem decode_eq_ok {w : Word} {i : Instr} : decode w = .ok i ↔ IsWordOf i w :=
  ⟨isWordOf_of_decode, fun ⟨hw, hi⟩ => hw ▸ decodeEncodeRoundTrip i hi⟩

/-- Settles O5, by the lemma that each instruction has for its row. -/
theorem encodingMatchesItsRow : Obligations.EncodingMatchesItsRow := by
  intro i
  cases i
  exacts [Laws.RowMatch.add .., Laws.RowMatch.addi .., Laws.RowMatch.adc .., Laws.RowMatch.adci ..,
    Laws.RowMatch.sub .., Laws.RowMatch.subi .., Laws.RowMatch.sbc .., Laws.RowMatch.sbci .., Laws.RowMatch.cmp ..,
    Laws.RowMatch.cmpi .., Laws.RowMatch.and .., Laws.RowMatch.andi .., Laws.RowMatch.or .., Laws.RowMatch.ori ..,
    Laws.RowMatch.xor .., Laws.RowMatch.xori .., Laws.RowMatch.sll .., Laws.RowMatch.slli .., Laws.RowMatch.srl ..,
    Laws.RowMatch.srli .., Laws.RowMatch.sra .., Laws.RowMatch.srai .., Laws.RowMatch.rol .., Laws.RowMatch.roli ..,
    Laws.RowMatch.movi .., Laws.RowMatch.movr .., Laws.RowMatch.exti .., Laws.RowMatch.nop, Laws.RowMatch.adjw ..,
    Laws.RowMatch.ldw .., Laws.RowMatch.stw .., Laws.RowMatch.xchw .., Laws.RowMatch.ld .., Laws.RowMatch.ldr ..,
    Laws.RowMatch.st .., Laws.RowMatch.str .., Laws.RowMatch.ldx .., Laws.RowMatch.ldxa .., Laws.RowMatch.stx ..,
    Laws.RowMatch.stxa .., Laws.RowMatch.j .., Laws.RowMatch.jal .., Laws.RowMatch.jr .., Laws.RowMatch.jral ..,
    Laws.RowMatch.jst .., Laws.RowMatch.jvt .., Laws.RowMatch.beq .., Laws.RowMatch.bgts .., Laws.RowMatch.bgtu ..,
    Laws.RowMatch.bges .., Laws.RowMatch.bgeu .., Laws.RowMatch.bles .., Laws.RowMatch.bleu .., Laws.RowMatch.blts ..,
    Laws.RowMatch.bltu .., Laws.RowMatch.bne .., Laws.RowMatch.bz .., Laws.RowMatch.bnz .., Laws.RowMatch.bs ..,
    Laws.RowMatch.bns .., Laws.RowMatch.bc .., Laws.RowMatch.bnc .., Laws.RowMatch.bv .., Laws.RowMatch.bnv ..,
    Laws.RowMatch.bz1 .., Laws.RowMatch.bz0 .., Laws.RowMatch.bs1 .., Laws.RowMatch.bs0 .., Laws.RowMatch.bc1 ..,
    Laws.RowMatch.bc0 .., Laws.RowMatch.bv1 .., Laws.RowMatch.bv0 ..]

theorem matches_row_of_decode {w : Word} {i : Instr} (h : decode w = .ok i) : i.row.matches w = true := by
  obtain ⟨rfl, -⟩ := decode_eq_ok.1 h
  exact encodingMatchesItsRow i

/-- Settles O6: a word that matches a row is the word of an instruction of that row, and the decoder gives that instruction. -/
theorem decodeFollowsOpcodeMap : Obligations.DecodeFollowsOpcodeMap := by
  intro w
  refine ⟨⟨?matched, ?accepted⟩, ?same⟩
  case matched => exact fun ⟨i, h⟩ => ⟨i.row, row_mem_opcodeRows i, matches_row_of_decode h⟩
  case accepted =>
    rintro ⟨r, hr, h⟩
    obtain ⟨i, hi, -⟩ := exists_isWordOf_of_matches hr h
    exact ⟨i, decode_eq_ok.2 hi⟩
  case same =>
    intro i hi r hr
    refine ⟨fun h => ?_, fun e => e ▸ matches_row_of_decode hi⟩
    obtain ⟨j, hj, rfl⟩ := exists_isWordOf_of_matches hr h
    have same : j = i := Except.ok.inj ((decode_eq_ok.2 hj).symm.trans hi)
    rw [same]

/-- Settles O7, group by group: four of the ten conditions are ranges of the word, which are conditions on the major opcode (and,
for NOP, on F and cond) too; then the major opcode says which conditions can hold, and its group whether they do. -/
theorem unlistedWordsRefused : Obligations.UnlistedWordsRefused := by
  intro w
  change Refused (decode w) ↔ _
  have bound := w.isLt
  have opcode3 : 0x3000 ≤ w.toNat ∧ w.toNat ≤ 0x3FFF ↔ w.toNat / 2048 = 6 ∨ w.toNat / 2048 = 7 := by omega
  have opcode9 : 0x9000 ≤ w.toNat ∧ w.toNat ≤ 0x9FFF ↔ w.toNat / 2048 = 18 ∨ w.toNat / 2048 = 19 := by omega
  have nop : 0xB701 ≤ w.toNat ∧ w.toNat ≤ 0xB7FF ↔
      (w.toNat / 2048 = 22 ∨ w.toNat / 2048 = 23) ∧ w.toNat / 256 % 16 = 7 ∧ w.toNat % 256 ≠ 0 := by omega
  have opcode7 : 0xE000 ≤ w.toNat ↔ 28 ≤ w.toNat / 2048 := by omega
  rw [opcode3, opcode9, nop, opcode7, ← fieldMajor_toNat]
  unfold decode
  split
  case h_1 hm => simp [hm, refused_decodeLogic]
  case h_2 hm => simp [hm, refused_decodeLogicImm]
  case h_21 hm => simp [hm, refused_decodeControl]
  case h_23 hm | h_24 hm => simp [hm, refused_decodeBranch]
  case h_7 hm | h_8 hm | h_19 hm | h_20 hm => simp [hm, refused_error]
  case h_29 =>
    have last : 28 ≤ (fieldMajor w).toNat := by grind
    simp [last, refused_error]
  all_goals
    rename_i hm
    simp [hm, not_refused_ok]

/-- Settles O3: the encoder's arms are the same. -/
theorem aliasMnemonicsShareWords : Obligations.AliasMnemonicsShareWords :=
  fun _ => ⟨⟨rfl, rfl⟩, ⟨rfl, rfl⟩, rfl, rfl, ⟨rfl, rfl⟩, ⟨rfl, rfl⟩, rfl, rfl⟩

/-- Settles O4, in its three parts. -/
theorem aliasMeansCanonical : Obligations.AliasMeansCanonical :=
  fun i s => ⟨(encode_canonical i).symm, (Machine.exec_canonical i s).symm, i.canonical_wellFormed⟩

/-- Settles O8: each word written out by hand is, by evaluation, the encoding of its instruction, which decodes to it. -/
theorem sampleWordsDecode : Obligations.SampleWordsDecode :=
  ⟨decodeEncodeRoundTrip (.add 0 2 4) rfl, decodeEncodeRoundTrip (.cmp 2 4) rfl, decodeEncodeRoundTrip (.xori 5 2 7) rfl,
    decodeEncodeRoundTrip (.srai 0 2 0) rfl, decodeEncodeRoundTrip (.movi 3 5) rfl,
    decodeEncodeRoundTrip (.exti 0x0246) rfl, decodeEncodeRoundTrip (.ldw 6 0b11000) rfl,
    decodeEncodeRoundTrip (.ld 0 1 0b11111) rfl, decodeEncodeRoundTrip (.stxa 3 0x80) rfl,
    decodeEncodeRoundTrip (.jst 1 4) rfl, decodeEncodeRoundTrip (.j 0xFF) rfl, decodeEncodeRoundTrip (.bgts 5) rfl,
    decodeEncodeRoundTrip .nop rfl⟩

end Sys2Proof

/-! # Proofs: words and fields that stop the machine, and the end of a run -/

namespace Sys2Proof.Machine

section

variable {s : State}

/-! ## A field that is not legal (R117) -/

theorem orFault_imm5_illegal {f : BitVec 5} {k : Val Word → Answer} (long : s.hasExt13 = true) (high : 8 ≤ f.toNat) :
    orFault (s.imm5 f) k = .fault .longFormFieldBits := by
  rw [imm5_of_illegal long high, orFault_error]

theorem orFault_imm8_illegal {f : BitVec 8} {k : Val Word → Answer} (long : s.hasExt13 = true) (high : 8 ≤ f.toNat) :
    orFault (s.imm8 f) k = .fault .longFormFieldBits := by
  rw [imm8_of_illegal long high, orFault_error]

/-! ## The jump to itself (R231, R346) -/

theorem decode_selfJump : decode 0xBFFF#16 = .ok (.j 0xFF#8) := decodeEncodeRoundTrip (.j 0xFF#8) rfl

/-- J reads and writes no word, so the fetch is the one access that must exist. -/
theorem step_selfJump (hword : s.mem.read s.pc = .known 0xBFFF#16) (hpc : s.populated (.known s.pc) = true) :
    step s = exec (.j 0xFF#8) s :=
  step_of_word hword decode_selfJump ⟨hpc, by simp [State.reads]⟩ (by simp [WritesExist, State.writes])

/-- A jump to PC changes nothing where ext13 and has_ext13 are clear already. -/
theorem State.jumpTo_pc_of_prefixCleared (h : PrefixCleared s) : s.jumpTo (.known s.pc) = s := by
  obtain ⟨hflag, hext⟩ := h
  cases s
  cases hflag
  cases hext
  rfl

/-- In the short form the offset 0xFF is -1, and `PC + 1 - 1` is PC. -/
theorem exec_selfJump (h : PrefixCleared s) : exec (.j 0xFF#8) s = .next s := by
  obtain ⟨short, -⟩ := id h
  have legal : FieldLegal s 0xFF#8 := fun long => by simp [short] at long
  have back : s.pcPlus (operandField s 0xFF#8) = .known s.pc := by
    simp [State.pcPlus, operandField, short, BitVec.add_assoc]
  refine orFault_imm8_next.2 ⟨legal, congrArg Host.Outcome.next ?_⟩
  rw [back, State.jumpTo_pc_of_prefixCleared h]

/-- In a state of the invariant ext13 is UNDEFINED while has_ext13 is 0. -/
theorem State.Inv.prefixCleared (hs : s.Inv) (short : s.hasExt13 = false) : PrefixCleared s := by
  obtain ⟨-, -, defined⟩ := hs
  rw [short] at defined
  refine ⟨short, ?_⟩
  cases h : s.ext13 with
  | undefined => rfl
  | known x => simp [h] at defined

end

/-! ## The statements -/

/-- Settles O10: a fetch of a defined word decodes that word. -/
theorem stepFaultsOnUnlistedWord : Obligations.StepFaultsOnUnlistedWord := by
  intro s w why hword hdec hpc
  obtain ⟨hfetch, -⟩ := State.fetch_known (s := s) hword
  exact step_of_error (hfetch ▸ hdec) hpc

/-- Settles O25: each of these instructions takes its field before anything else. -/
theorem longFormFieldBitsFault : Obligations.LongFormFieldBitsFault := by
  intro i s n hn long high
  cases i
  case ld | ldr | st | str | ldx | stx | jr | jst | jvt | adjw | ldw =>
    cases hn
    exact orFault_imm5_illegal long high
  case movi | movr | ldxa | stxa | j | jal
    | beq | bne | bz | bnz | bs | bns | bc | bnc | bv | bnv | bgeu | bltu | bgts | bgtu | bges | bles | bleu | blts
    | bz1 | bz0 | bs1 | bs0 | bc1 | bc0 | bv1 | bv0 =>
    cases hn
    exact orFault_imm8_illegal long high
  all_goals cases hn

/-- Settles O13: the word is J by -1, whose field is legal in the short form only. -/
theorem endOfRun : Obligations.EndOfRun := by
  intro s hs hword hpc
  rw [step_selfJump hword hpc]
  refine ⟨fun short => ⟨?_, exec_selfJump (hs.prefixCleared short)⟩,
    fun long => ⟨?_, longFormFieldBitsFault (.j 0xFF#8) s _ rfl long (by decide)⟩⟩
  · simp [State.ended, State.fetched, hword, short]
  · simp [State.ended, long]

end Sys2Proof.Machine

/-! # Proofs: the ALU instructions with an immediate, and MOVI and MOVR -/

namespace Sys2Proof.Machine

section

variable {s : State} {imm : BitVec 3}

/-! ## The arithmetic and logic immediates (R112) -/

theorem orFault_immAl_some {v : Val Word} {k : Val Word → Answer} (h : operandAl s imm = some v) :
    orFault (s.immAl imm) k = k v := by
  rw [immAl_eq_operandAl, h, orFault_ok]

theorem orFault_immAl_none {k : Val Word → Answer} (h : operandAl s imm = none) :
    orFault (s.immAl imm) k = .fault .immAl3Unset := by
  rw [immAl_eq_operandAl, h, orFault_error]

end

/-! ## Ends of instructions, with results in whole numbers -/

theorem writeAlu_sum_aluPost (s : State) (rd : BitVec 3) (a b : Val Word) (c : Val Bool) :
    AluPost s (s.writeAlu rd (arithOf addResult a b c)) rd (sumOf a b c) :=
  arithOf_addResult a b c ▸ writeAlu_aluPost s rd _

theorem writeAlu_difference_aluPost (s : State) (rd : BitVec 3) (a b : Val Word) (c : Val Bool) :
    AluPost s (s.writeAlu rd (arithOf subResult a b c)) rd (differenceOf a b c) :=
  arithOf_subResult a b c ▸ writeAlu_aluPost s rd _

/-- The end of a compare. -/
theorem writeFlags_comparePost (s : State) (r : AluResult) : ComparePost s (s.writeFlags r) r :=
  ⟨rfl, rfl, ⟨rfl, rfl, rfl, rfl, rfl⟩, ⟨rfl, rfl⟩, fun _ => rfl⟩

theorem writeFlags_difference_comparePost (s : State) (a b : Val Word) (c : Val Bool) :
    ComparePost s (s.writeFlags (arithOf subResult a b c)) (differenceOf a b c) :=
  arithOf_subResult a b c ▸ writeFlags_comparePost s _

/-- The end of a logic instruction whose word is computed bit by bit. -/
theorem writeAlu_bitwisePost {f : Word → Word → Word} {g : Bool → Bool → Bool}
    (bits : ∀ x y i, (f x y).getLsbD i = g (x.getLsbD i) (y.getLsbD i)) (s : State) (rd : BitVec 3) (a b : Val Word) :
    BitwisePost s (s.writeAlu rd (logicResult (Val.map2 f a b))) rd g a b := by
  refine ⟨Val.map2 f a b, logicResult_eq _ ▸ writeAlu_aluPost s rd _, ?_⟩
  cases a <;> cases b
  case known.known x y => exact ⟨f x y, rfl, fun i _ => bits x y i⟩
  all_goals rfl

/-- A shift or rotate by a defined amount of 0 to 15, where `g` says in numbers what `f` does. -/
theorem shift_aluPost {f g : Word → Nat → Word} {n : Word} (hn : n.toNat ≤ 15) (hfg : ∀ x, f x n.toNat = g x n.toNat)
    (s : State) (rd : BitVec 3) (a : Val Word) :
    ∃ t, s.shift f rd a (.known n) = .next t ∧ AluPost s t rd (wordResultOf (a.map fun x => g x n.toNat)) := by
  have word : Val.map2 (fun x n => f x n.toNat) a (.known n) = a.map fun x => g x n.toNat := by
    cases a with
    | known x => exact congrArg Val.known (hfg x)
    | undefined => rfl
  refine ⟨_, State.shift_next.2 ⟨hn, rfl⟩, ?_⟩
  rw [word, logicResult_eq]
  exact writeAlu_aluPost s rd _

/-! ## The statements -/

/-- Settles O28: the operand is that of the table, and bits compute what whole numbers say. -/
theorem immediateArithmeticResult : Obligations.ImmediateArithmeticResult := by
  intro s rd ra imm
  refine ⟨fun v h => ⟨?addi, ?adci, ?subi, ?sbci⟩, fun h => ?stop⟩
  case addi | adci => exact ⟨_, orFault_immAl_some h, writeAlu_sum_aluPost ..⟩
  case subi | sbci => exact ⟨_, orFault_immAl_some h, writeAlu_difference_aluPost ..⟩
  case stop =>
    simp only [List.forall_mem_cons]
    exact ⟨orFault_immAl_none h, orFault_immAl_none h, orFault_immAl_none h, orFault_immAl_none h, by simp⟩

/-- Settles O29: a compare is a subtraction that ends with its flags alone. -/
theorem compareResult : Obligations.CompareResult :=
  fun s _ _ _ => ⟨⟨_, rfl, writeFlags_difference_comparePost s _ _ _⟩,
    fun _ h => ⟨_, orFault_immAl_some h, writeFlags_difference_comparePost s _ _ _⟩, orFault_immAl_none⟩

/-- Settles O31: the operand is that of the table, and the three operations act on each bit. -/
theorem logicImmediateResult : Obligations.LogicImmediateResult := by
  intro s rd ra imm
  refine ⟨fun v h => ⟨?andi, ?ori, ?xori⟩, fun h => ?stop⟩
  case andi => exact ⟨_, orFault_immAl_some h, writeAlu_bitwisePost (fun _ _ _ => BitVec.getLsbD_and) s rd _ v⟩
  case ori => exact ⟨_, orFault_immAl_some h, writeAlu_bitwisePost (fun _ _ _ => BitVec.getLsbD_or) s rd _ v⟩
  case xori => exact ⟨_, orFault_immAl_some h, writeAlu_bitwisePost (fun _ _ _ => BitVec.getLsbD_xor) s rd _ v⟩
  case stop =>
    simp only [List.forall_mem_cons]
    exact ⟨orFault_immAl_none h, orFault_immAl_none h, orFault_immAl_none h, by simp⟩

/-- Settles O33: the amount is that of the table, and each shift in bits is the one in numbers. -/
theorem shiftImmediateResult : Obligations.ShiftImmediateResult := by
  intro s rd ra imm n hn h
  rw [← immSr_eq_operandSr] at hn
  simp only [exec, execSlli, execSrli, execSrai, execRoli, hn]
  exact ⟨shift_aluPost h (shiftLeft_eq · _) s rd _, shift_aluPost h (shiftRightLogical_eq · _) s rd _,
    shift_aluPost h (shiftRightArith_eq · _) s rd _, shift_aluPost h (rotateLeft_eq · _ h) s rd _⟩

/-- Settles O36: a legal field gives the operand, which goes to Rd, for MOVR with `PC + 1` added. -/
theorem moveResult : Obligations.MoveResult :=
  fun s rd _ hf => ⟨⟨_, orFault_imm8_next.2 ⟨hf, rfl⟩, setReg_advance_regPost s rd _⟩,
    ⟨_, orFault_imm8_next.2 ⟨hf, rfl⟩, setReg_advance_regPost s rd _⟩⟩

end Sys2Proof.Machine

/-! # Proofs: what the assembler emits

The EXTI pair of `longForm` (R116), the short forms (R134), and two expansions (R132). -/

namespace Sys2Proof.Machine

section

variable {s t : State} {v : Word}

/-! ## The pair of `longForm` (R116) -/

theorem longForm_low_toNat (v : Word) : (longForm v).2.toNat = v.toNat % 8 := by
  simp [longForm]

theorem encode_longForm (v : Word) : encode (longForm v).1 = 0xC000#16 ||| (v >>> 3) := by
  refine BitVec.eq_of_getLsbD_eq fun i hi => ?_
  rw [longForm, encode, Laws.encodeE_bit]
  simp only [BitVec.getLsbD_extractLsb', BitVec.getLsbD_or, BitVec.getLsbD_ushiftRight]
  interval_cases i <;> simp

/-- The state after the EXTI of `longForm v`. -/
def State.afterLongFormExti (s : State) (v : Word) : State :=
  { s with ext13 := .known (v.extractLsb' 3 13), hasExt13 := true, pc := s.nextPc }

@[simp] theorem State.afterLongFormExti_hasExt13 (s : State) (v : Word) :
    (s.afterLongFormExti v).hasExt13 = true := rfl

theorem exec_longForm (v : Word) (s : State) : exec (longForm v).1 s = .next (s.afterLongFormExti v) := exec_exti _ s

/-- After that EXTI the long form with the low bits of `v` is `v`. -/
theorem longValue_afterLongFormExti (s : State) (v : Word) :
    longValue (s.afterLongFormExti v) (longForm v).2.toNat = .known v := by
  rw [longForm_low_toNat]
  refine congrArg Val.known (BitVec.eq_of_toNat_eq ?_)
  have bound := v.isLt
  simp [Nat.shiftRight_eq_div_pow]
  omega

theorem operandAl_longForm (s : State) (v : Word) :
    operandAl (s.afterLongFormExti v) (longForm v).2 = some (.known v) := by
  rw [operandAl, if_pos (s.afterLongFormExti_hasExt13 v), longValue_afterLongFormExti]

theorem operandSr_longForm (s : State) (v : Word) : operandSr (s.afterLongFormExti v) (longForm v).2 = .known v := by
  rw [operandSr, if_pos (s.afterLongFormExti_hasExt13 v), longValue_afterLongFormExti]

/-- In a wider field the low bits stand below zeros, so the field is legal. -/
theorem operandField_longForm {n : Nat} (hn : 3 ≤ n) (s : State) (v : Word) :
    FieldLegal (s.afterLongFormExti v) ((longForm v).2.setWidth n) ∧
      operandField (s.afterLongFormExti v) ((longForm v).2.setWidth n) = .known v := by
  have low : ((longForm v).2.setWidth n).toNat = (longForm v).2.toNat := BitVec.toNat_setWidth_of_le hn
  have legal := (longForm v).2.isLt
  refine ⟨fun _ => low ▸ legal, ?_⟩
  rw [operandField, if_pos (s.afterLongFormExti_hasExt13 v), low, Nat.mod_eq_of_lt legal, longValue_afterLongFormExti]

/-! ## Short forms (R134) -/

/-- `short` is a field that meets `p`, and is none only where no field does. -/
def ShortFormOf {n : Nat} (short : Option (BitVec n)) (p : BitVec n → Prop) : Prop :=
  (∀ x, short = some x → p x) ∧ (short = none → ∀ x, ¬ p x)

theorem shortFormOf_of {n : Nat} {short : Option (BitVec n)} {p : BitVec n → Prop} (sound : ∀ x, short = some x → p x)
    (complete : ∀ x, p x → short.isSome = true) : ShortFormOf short p :=
  ⟨sound, fun none x hx => by simpa [none] using complete x hx⟩

/-- The entries of the table are found before `IMM_AL_3`, which may be one of them. -/
theorem shortAl_shortFormOf (short : s.hasExt13 = false) :
    ShortFormOf (shortAl s.platform.immAl3 v) fun x => operandAl s x = some (.known v) := by
  have word {n : Nat} (h : v.toNat = n) : BitVec.ofNat 16 n = v := by rw [← h, BitVec.ofNat_toNat, BitVec.setWidth_eq]
  refine shortFormOf_of (fun x h => ?sound) fun x h => ?complete
  case sound =>
    unfold shortAl at h
    split at h
    case h_8 =>
      obtain ⟨supplied, rfl⟩ : s.platform.immAl3 = some v ∧ 3#3 = x := by simpa using h
      simp [operandAl, short, supplied]
    all_goals
      rename_i hv
      cases h
      simp [operandAl, short, ← word hv]
  case complete =>
    rcases bits3_cases x with rfl | rfl | rfl | rfl | rfl | rfl | rfl | rfl <;> simp [operandAl, short] at h
    case inr.inr.inr.inl =>
      unfold shortAl
      split <;> simp [h]
    all_goals
      subst h
      rfl

/-- The amounts 1 to 8 are each one field's, and 8 is that of the field 0. -/
theorem shortSr_shortFormOf (short : s.hasExt13 = false) :
    ShortFormOf (shortSr v) fun x => operandSr s x = .known v := by
  simp only [operandSr, short, Bool.false_eq_true, if_false, Val.known.injEq]
  refine shortFormOf_of (fun x h => ?sound) fun x h => ?complete
  case sound =>
    obtain ⟨⟨one, eight⟩, rfl⟩ : (1 ≤ v.toNat ∧ v.toNat ≤ 8) ∧ v.extractLsb' 0 3 = x := by simpa [shortSr] using h
    refine BitVec.eq_of_toNat_eq ?_
    split_ifs with zero <;> rw [low3_zero_iff] at zero
    · simp
      omega
    · simp
      omega
  case complete =>
    subst h
    revert x
    decide

/-- The low bits of a field that was sign-extended are the field. -/
theorem extractLsb'_signExtend {n : Nat} (hn : n ≤ 16) (x : BitVec n) : (x.signExtend 16).extractLsb' 0 n = x := by
  refine BitVec.eq_of_getLsbD_eq fun i hi => ?_
  simp [BitVec.getLsbD_signExtend, hi]
  omega

/-- Where a field holds a value in its short form, it holds the low bits of the value, which have the value as their sign extension;
this is the test of `short5` and `short8`. -/
theorem signed_shortFormOf {n : Nat} (hn : n ≤ 16) (short : s.hasExt13 = false) :
    ShortFormOf (if (v.extractLsb' 0 n).signExtend 16 = v then some (v.extractLsb' 0 n) else none)
      fun x => operandField s x = .known v := by
  have operand (x : BitVec n) : operandField s x = .known (x.signExtend 16) := by
    rw [operandField, short, if_neg Bool.false_ne_true]
    rfl
  simp only [operand, Val.known.injEq]
  refine shortFormOf_of (fun x h => ?sound) fun x h => ?complete
  case sound =>
    obtain ⟨hv, rfl⟩ : (v.extractLsb' 0 n).signExtend 16 = v ∧ v.extractLsb' 0 n = x := by simpa using h
    exact hv
  case complete => simp [← h, extractLsb'_signExtend hn]

/-! ## Instructions one after the other -/

theorem execAll_cons {i : Instr} {l : List Instr} (h : exec i s = .next t) : execAll (i :: l) s = execAll l t := by
  rw [execAll, h]

theorem State.reg_writeAlu_other (s : State) {r rd : BitVec 3} (y : AluResult) (h : r ≠ rd) :
    (s.writeAlu rd y).reg r = s.reg r := s.reg_setReg_other y.value h

/-! ## XCHG (R194) -/

/-- XOR of two defined words writes their exclusive or and its flags, and keeps the other registers. -/
theorem exec_xor_known {ra rb : BitVec 3} {a b : Word} (rd : BitVec 3) (ha : s.reg ra = .known a)
    (hb : s.reg rb = .known b) :
    ∃ t, exec (.xor rd ra rb) s = .next t ∧ t.reg rd = .known (a ^^^ b) ∧ (∀ r, r ≠ rd → t.reg r = s.reg r) ∧
      t.flags = (wordResultOf (.known (a ^^^ b))).flags ∧ t.pc = s.pc + 1#16 := by
  refine ⟨s.writeAlu rd (wordResultOf (.known (a ^^^ b))), ?_, s.reg_writeAlu rd _, fun r => s.reg_writeAlu_other _,
    rfl, rfl⟩
  rw [exec, execXor, ha, hb, logicResult_eq, Val.map2_known]

/-! ## RORI (R179) -/

/-- A rotate left by `m` moves bit `i` to bit `(i + m) mod 16`. -/
theorem getLsbD_rotateLeft {x : Word} {m i : Nat} (hm : m ≤ 15) (hi : i < 16) :
    (rotateLeft x m).getLsbD ((i + m) % 16) = x.getLsbD i := by
  rw [rotateLeft, BitVec.getLsbD_or, BitVec.getLsbD_shiftLeft, BitVec.getLsbD_ushiftRight]
  by_cases h : i + m < 16
  · have above : 16 - m + (i + m) = i + 16 := by omega
    simp [Nat.mod_eq_of_lt h, h, above]
  · have wrapped : (i + m) % 16 = i + m - 16 := by omega
    have back : 16 - m + (i + m - 16) = i := by omega
    have below : i + m - 16 < m := by omega
    simp [wrapped, back, below]

/-- RORI by `n` is ROLI by `16 - n`, and by 0 where `n` is 0. -/
theorem expand_rori {rd ra : BitVec 3} {n : Nat} (hn : n ≤ 15) :
    Pseudo.expand (.rori rd ra n) = some (assembleRoli rd ra ((16 - n) % 16)) := by
  rw [Pseudo.expand, if_neg (by omega)]
  split_ifs with h
  · rw [h]
  · rw [Nat.mod_eq_of_lt (by omega)]

/-- The state after a rotate of `x` left by `m` into Rd: the word, its flags, and no other word of memory. -/
def RotatePost (s u : State) (rd : BitVec 3) (x : Word) (m : Nat) : Prop :=
  u.reg rd = .known (rotateLeft x m) ∧ u.flags = (wordResultOf (.known (rotateLeft x m))).flags ∧
    SameMemBut s u (s.regAddr rd)

/-- ROLI rotates by its operand, in the short form or in the long form. -/
theorem exec_roli_rotatePost {ra imm : BitVec 3} {x n : Word} (rd : BitVec 3) (hx : s.reg ra = .known x)
    (operand : operandSr s imm = .known n) (hn : n.toNat ≤ 15) :
    ∃ u, exec (.roli rd ra imm) s = .next u ∧ RotatePost s u rd x n.toNat := by
  obtain ⟨u, run, value, flags, -, -, -, frame⟩ := shift_aluPost (f := rotateLeft) hn (fun _ => rfl) s rd (s.reg ra)
  rw [hx] at value flags
  refine ⟨u, ?_, value, flags, frame⟩
  rw [exec, execRoli, immSr_eq_operandSr, operand, run]

/-- The short form, or EXTI and the long form, rotates by the amount: EXTI changes no register. -/
theorem assembleRoli_rotatePost {ra : BitVec 3} {x : Word} {m : Nat} (rd : BitVec 3) (hm : m ≤ 15)
    (short : s.hasExt13 = false) (hx : s.reg ra = .known x) :
    ∃ u, execAll (assembleRoli rd ra m) s = .next u ∧ RotatePost s u rd x m := by
  obtain ⟨n, hn⟩ : ∃ n, n = BitVec.ofNat 16 m := ⟨_, rfl⟩
  have amount : n.toNat = m := by
    rw [hn, BitVec.toNat_ofNat]
    omega
  rw [assembleRoli, ← hn]
  subst amount
  obtain ⟨sound, -⟩ := shortSr_shortFormOf (v := n) short
  cases himm : shortSr n with
  | some imm =>
    obtain ⟨u, run, post⟩ := exec_roli_rotatePost rd hx (sound imm himm) hm
    exact ⟨u, execAll_cons run, post⟩
  | none =>
    obtain ⟨u, run, post⟩ := exec_roli_rotatePost (s := s.afterLongFormExti n) rd hx (operandSr_longForm s n) hm
    exact ⟨u, (execAll_cons (exec_longForm n s)).trans (execAll_cons (by rw [BitVec.setWidth_eq, run])), post⟩

end

/-! ## The statements -/

/-- Settles O39: the long form by the operands after its EXTI, each short form by the table or the test that it inverts. -/
theorem longFormBuildsConstant : Obligations.LongFormBuildsConstant := by
  intro v s
  obtain ⟨legal5, field5⟩ := operandField_longForm (n := 5) (by decide) s v
  have long8 := operandField_longForm (n := 8) (by decide) s v
  refine ⟨⟨encode_longForm v, longForm_low_toNat v, _, exec_longForm v s, rfl, operandAl_longForm s v,
    operandSr_longForm s v, legal5, field5, long8⟩, fun short => ?_⟩
  exact ⟨shortAl_shortFormOf short, shortSr_shortFormOf short, signed_shortFormOf (by decide) short,
    signed_shortFormOf (by decide) short⟩

/-- Settles O59: `b ^ (a ^ b) = a`, which Rb takes, and `(a ^ b) ^ a = b`, which Ra takes. -/
theorem xchgExpansionSwaps : Obligations.XchgExpansionSwaps := by
  intro s ra rb a b hne ha hb
  have toB : b ^^^ (a ^^^ b) = a := by rw [BitVec.xor_comm a b, ← BitVec.xor_assoc, BitVec.xor_self, BitVec.zero_xor]
  have toA : a ^^^ b ^^^ a = b := by rw [BitVec.xor_comm a b, BitVec.xor_assoc, BitVec.xor_self, BitVec.xor_zero]
  obtain ⟨s1, run1, a1, keep1, -, pc1⟩ := exec_xor_known ra ha hb
  obtain ⟨s2, run2, b2, keep2, -, pc2⟩ := exec_xor_known rb ((keep1 rb hne.symm).trans hb) a1
  rw [toB] at b2
  obtain ⟨s3, run3, a3, keep3, flags3, pc3⟩ := exec_xor_known ra ((keep2 ra hne).trans a1) b2
  rw [toA] at a3 flags3
  refine ⟨_, s3, congrArg some (if_neg hne), ?run, a3, (keep3 rb hne.symm).trans b2, fun r hra hrb => ?kept, flags3, ?pc⟩
  case run => rw [execAll_cons run1, execAll_cons run2, execAll_cons run3, execAll]
  case kept => rw [keep3 r hra, keep2 r hrb, keep1 r hra]
  case pc =>
    rw [pc3, pc2, pc1]
    bv_omega

/-- Settles O60: rotating left by `16 - n` moves bit `i` to bit `(i - n) mod 16`. -/
theorem roriExpansionRotates : Obligations.RoriExpansionRotates := by
  intro s rd ra n x hn short hx
  have hm : (16 - n) % 16 ≤ 15 := by omega
  obtain ⟨u, run, value, flags, frame⟩ := assembleRoli_rotatePost rd hm short hx
  refine ⟨_, u, _, expand_rori hn, run, value, fun i hi => ?_, flags, frame⟩
  rw [← getLsbD_rotateLeft hm hi]
  congr 1
  omega

end Sys2Proof.Machine

/-! # Proofs: register arithmetic, and what follows from it

ADD, ADC, SUB and SBC in whole numbers; the ten comparisons after CMP (R267); arithmetic on register pairs (R143, R147). -/

namespace Sys2Proof.Machine

/-! ## The statements about one instruction -/

/-- Settles O26: bits compute what whole numbers say. -/
theorem addAdcResult : Obligations.AddAdcResult :=
  fun s rd _ _ => ⟨⟨_, rfl, writeAlu_sum_aluPost s rd _ _ _⟩, ⟨_, rfl, writeAlu_sum_aluPost s rd _ _ _⟩⟩

/-- Settles O27: bits compute what whole numbers say. -/
theorem subSbcResult : Obligations.SubSbcResult :=
  fun s rd _ _ => ⟨⟨_, rfl, writeAlu_difference_aluPost s rd _ _ _⟩, ⟨_, rfl, writeAlu_difference_aluPost s rd _ _ _⟩⟩

section

variable {s t : State}

/-! ## A branch on defined flags (R240) -/

/-- In the short form a field is its signed value. -/
theorem operandField_of_short {n : Nat} (f : BitVec n) (short : s.hasExt13 = false) :
    operandField s f = .known (BitVec.ofInt 16 f.toInt) := by
  rw [operandField, short, if_neg Bool.false_ne_true]

/-- A branch with a legal field and a defined condition goes to its target if the condition holds, and assigns PC alone. -/
theorem branch_jumpPost {cond : Val Bool} {taken : Bool} {off : BitVec 8} {o : Word} (legal : FieldLegal s off)
    (operand : operandField s off = .known o) (hcond : cond = .known taken) :
    ∃ u, s.branch cond off = .next u ∧ JumpPost s u (branchTarget s o taken) := by
  subst hcond
  refine ⟨_, State.branch_next.2 ⟨_, imm8_of_legal legal, rfl⟩, ?_⟩
  rw [operand]
  cases taken <;> exact jumpTo_jumpPost s _

/-! ## The conditions after a compare (R109, R149) -/

/-- The flags after CMP of `a` and `b`, as `compareResult` gives them. -/
def compareFlags (a b : Word) : Flags := (differenceOf (.known a) (.known b) (.known true)).flags

/-- Z: a difference of two words is 0 modulo 65,536 only where it is 0. -/
theorem compareFlags_z (a b : Word) : (compareFlags a b).z = .known (decide (a.toNat = b.toNat)) := by
  have ha := a.isLt
  have hb := b.isLt
  refine congrArg Val.known (decide_eq_decide.2 ?_)
  rw [BitVec.toNat_ofInt]
  simp only [Bool.toNat_true]
  omega

/-- C: nothing was borrowed. -/
theorem compareFlags_c (a b : Word) : (compareFlags a b).c = .known (decide (b.toNat ≤ a.toNat)) := by
  refine congrArg Val.known (decide_eq_decide.2 ?_)
  simp only [Bool.toNat_true]
  omega

/-- S is the sign of the signed difference where that fits, and the opposite where V says that it does not. -/
theorem compareFlags_lts (a b : Word) : (compareFlags a b).lts = .known (decide (a.toInt < b.toInt)) := by
  have ha := a.isLt
  have hb := b.isLt
  refine congrArg Val.known ?_
  rw [Bool.eq_iff_iff, outsideSigned, BitVec.toNat_ofInt, toInt_word, toInt_word]
  simp only [Bool.toNat_true, bne_iff_ne, ne_eq, decide_eq_decide, decide_eq_true_eq]
  split_ifs <;> omega

theorem compareFlags_leu (a b : Word) : (compareFlags a b).leu = .known (decide (a.toNat ≤ b.toNat)) := by
  rw [Flags.leu, compareFlags_c, compareFlags_z]
  refine congrArg Val.known ?_
  rw [Bool.eq_iff_iff]
  simp only [Bool.or_eq_true, Bool.not_eq_true', decide_eq_true_eq, decide_eq_false_iff_not]
  omega

/-- The condition 110 is the condition 101, or Z. -/
theorem Flags.les_eq (f : Flags) : f.les = orBit f.lts f.z := rfl

theorem compareFlags_les (a b : Word) : (compareFlags a b).les = .known (decide (a.toInt ≤ b.toInt)) := by
  have same : a.toNat = b.toNat ↔ a.toInt = b.toInt := by rw [BitVec.toNat_inj, BitVec.toInt_inj]
  rw [Flags.les_eq, compareFlags_lts, compareFlags_z]
  refine congrArg Val.known ?_
  rw [Bool.eq_iff_iff]
  simp only [Bool.or_eq_true, decide_eq_true_eq, same]
  omega

/-- The negation of a condition is decided by the opposite of what decides it. -/
theorem notBit_decide {x : Val Bool} {p q : Prop} [Decidable p] [Decidable q] (hx : x = .known (decide p))
    (opposite : q ↔ ¬ p) : notBit x = .known (decide q) := by
  rw [hx, decide_eq_decide.2 opposite, decide_not]
  rfl

/-! ## Arithmetic on register pairs (R143, R147) -/

/-- After an ALU instruction the registers other than Rd are as before. -/
theorem AluPost.reg_other {rd r : BitVec 3} {x : AluResult} (post : AluPost s t rd x) (h : r ≠ rd) :
    t.reg r = s.reg r := by
  obtain ⟨-, -, -, ⟨window, -⟩, -, frame⟩ := post
  rw [State.reg, State.reg, State.regAddr, window]
  exact frame _ fun same => h (s.regAddr_injective same)

/-- A result with a defined word and a defined C. -/
def WordAndCarry (x : AluResult) (v : Word) (k : Bool) : Prop := x.value = .known v ∧ x.flags.c = .known k

/-- A sum is its word and its carry, the carry with the weight 65,536. -/
theorem sumOf_wordAndCarry (a b : Word) (c : Bool) :
    ∃ v k, WordAndCarry (sumOf (.known a) (.known b) (.known c)) v k ∧
      v.toNat + 65536 * k.toNat = a.toNat + b.toNat + c.toNat := by
  have ha := a.isLt
  have hb := b.isLt
  have hc := c.toNat_le
  refine ⟨_, _, ⟨rfl, rfl⟩, ?_⟩
  rw [BitVec.toNat_ofNat]
  by_cases carries : 65536 ≤ a.toNat + b.toNat + c.toNat
  case pos => rw [decide_eq_true carries, Bool.toNat_true]; omega
  case neg => rw [decide_eq_false carries, Bool.toNat_false]; omega

/-- A difference is the sum with the complement 65,535 - b. -/
theorem differenceOf_wordAndCarry (a b : Word) (c : Bool) :
    ∃ v k, WordAndCarry (differenceOf (.known a) (.known b) (.known c)) v k ∧
      v.toNat + 65536 * k.toNat = a.toNat + (65535 - b.toNat) + c.toNat := by
  have ha := a.isLt
  have hb := b.isLt
  have hc := c.toNat_le
  refine ⟨_, _, ⟨rfl, rfl⟩, ?_⟩
  rw [BitVec.toNat_ofInt]
  by_cases covers : 0 ≤ (a.toNat : Int) - b.toNat - (1 - c.toNat)
  case pos => rw [decide_eq_true covers, Bool.toNat_true]; omega
  case neg => rw [decide_eq_false covers, Bool.toNat_false]; omega

/-- An operation `f` on the low words and then, with the carry that this leaves, on the high words. -/
theorem execAll_pair {i j : Instr} {f : Val Word → Val Word → Val Bool → AluResult} {dl dh al ah bl bh : BitVec 3}
    {c : Val Bool} {lo hi : Word} {k k' : Bool}
    (low : ∃ t, exec i s = .next t ∧ AluPost s t dl (f (s.reg al) (s.reg bl) c))
    (high : ∀ t, ∃ u, exec j t = .next u ∧ AluPost t u dh (f (t.reg ah) (t.reg bh) t.flags.c))
    (hdh : dl ≠ dh) (hah : dl ≠ ah) (hbh : dl ≠ bh) (hlo : WordAndCarry (f (s.reg al) (s.reg bl) c) lo k)
    (hhi : WordAndCarry (f (s.reg ah) (s.reg bh) (.known k)) hi k') :
    ∃ u, execAll [i, j] s = .next u ∧ u.reg dl = .known lo ∧ u.reg dh = .known hi ∧ u.flags.c = .known k' := by
  obtain ⟨t, run, post⟩ := low
  obtain ⟨u, run', post'⟩ := high t
  have kept := post'.reg_other hdh
  rw [post.reg_other hah.symm, post.reg_other hbh.symm] at post'
  obtain ⟨value, flags, -⟩ := post
  obtain ⟨word, carry⟩ := hlo
  rw [flags, carry] at post'
  obtain ⟨value', flags', -⟩ := post'
  obtain ⟨word', carry'⟩ := hhi
  refine ⟨u, ?_, kept.trans (value.trans word), value'.trans word', (congrArg Flags.c flags').trans carry'⟩
  rw [execAll_cons run, execAll_cons run', execAll]

/-- A 32-bit value with a carry of the weight 2^32 is a number modulo 2^32, and the carry says whether the number reaches 2^32. -/
theorem mod_and_carry {v n : Nat} {k : Bool} (bound : v < 4294967296) (h : v + 4294967296 * k.toNat = n) :
    v = n % 4294967296 ∧ k = decide (4294967296 ≤ n) := by
  cases k <;> simp only [Bool.toNat_false, Bool.toNat_true] at h
  case false => exact ⟨by omega, (decide_eq_false (by omega)).symm⟩
  case true => exact ⟨by omega, (decide_eq_true (by omega)).symm⟩

end

/-! ## The statements about two instructions -/

/-- Settles O57: after CMP each condition of R109 is the comparison that its mnemonic is named for. -/
theorem compareThenBranch : Obligations.CompareThenBranch := by
  intro s ra rb a b ha hb
  obtain ⟨⟨t, run, flags, -, -, ⟨short, -⟩, -⟩, -⟩ := compareResult s ra rb 0
  refine ⟨t, run, fun off => ?_⟩
  replace flags : t.flags = compareFlags a b := by rw [flags, ha, hb, compareFlags]
  have branch {cond : Val Bool} {taken : Bool} := branch_jumpPost (cond := cond) (taken := taken)
    (fun long => absurd (short ▸ long) Bool.false_ne_true) (operandField_of_short off short)
  have z := compareFlags_z a b
  have c := compareFlags_c a b
  have leu := compareFlags_leu a b
  have lts := compareFlags_lts a b
  have les := compareFlags_les a b
  rw [← flags] at z c leu lts les
  simp only [comparisons, List.forall_mem_cons]
  refine ⟨?beq, ?bne, ?bgtu, ?bgeu, ?bleu, ?bltu, ?bgts, ?bges, ?bles, ?blts, by simp⟩
  case beq => exact branch z
  case bgeu => exact branch c
  case bleu => exact branch leu
  case blts => exact branch lts
  case bles => exact branch les
  case bne => exact branch (notBit_decide z .rfl)
  case bltu => exact branch (notBit_decide c not_le.symm)
  case bgtu => exact branch (notBit_decide leu not_le.symm)
  case bges => exact branch (notBit_decide lts not_lt.symm)
  case bgts => exact branch (notBit_decide les not_le.symm)

/-- Settles O58: the carry of the low words has the weight of the high ones, so the two words and the last carry are the 32-bit sum,
or the sum with the complement. -/
theorem multiwordArithmetic : Obligations.MultiwordArithmetic := by
  intro s dl dh al ah bl bh a0 a1 b0 b1 hdh hah hbh ha0 ha1 hb0 hb1
  constructor
  case left =>
    obtain ⟨lo, k, low, hlo⟩ := sumOf_wordAndCarry a0 b0 false
    obtain ⟨hi, k', high, hhi⟩ := sumOf_wordAndCarry a1 b1 k
    rw [← ha0, ← hb0] at low
    rw [← ha1, ← hb1] at high
    obtain ⟨u, run, reg, reg', carry⟩ :=
      execAll_pair (addAdcResult s dl al bl).1 (fun t => (addAdcResult t dh ah bh).2) hdh hah hbh low high
    have both : hi.toNat * 65536 + lo.toNat + 4294967296 * k'.toNat
        = (a1.toNat * 65536 + a0.toNat) + (b1.toNat * 65536 + b0.toNat) := by
      rw [Bool.toNat_false] at hlo
      omega
    obtain ⟨sum, reached⟩ := mod_and_carry (by omega) both
    exact ⟨u, lo, hi, run, reg, reg', sum, reached ▸ carry⟩
  case right =>
    obtain ⟨lo, k, low, hlo⟩ := differenceOf_wordAndCarry a0 b0 true
    obtain ⟨hi, k', high, hhi⟩ := differenceOf_wordAndCarry a1 b1 k
    rw [← ha0, ← hb0] at low
    rw [← ha1, ← hb1] at high
    obtain ⟨u, run, reg, reg', carry⟩ :=
      execAll_pair (subSbcResult s dl al bl).1 (fun t => (subSbcResult t dh ah bh).2) hdh hah hbh low high
    have both : hi.toNat * 65536 + lo.toNat + 4294967296 * k'.toNat
        = (a1.toNat * 65536 + a0.toNat) + 4294967296 - (b1.toNat * 65536 + b0.toNat) := by
      rw [Bool.toNat_true] at hlo
      omega
    obtain ⟨difference, reached⟩ := mod_and_carry (by omega) both
    refine ⟨u, lo, hi, run, reg, reg', difference, ?_⟩
    rw [carry, reached]
    exact congrArg Val.known (decide_eq_decide.2 (by omega))

end Sys2Proof.Machine

/-! # Proofs: the logic instructions on two registers -/

namespace Sys2Proof.Machine

/-- Settles O30: each instruction ends as a logic instruction does, with a word whose every bit is the operation on the two bits
at its place. -/
theorem logicRegisterResult : Obligations.LogicRegisterResult := by
  intro s rd ra rb
  refine ⟨?and, ?or, ?xor⟩
  case and => exact ⟨_, rfl, writeAlu_bitwisePost (fun _ _ _ => BitVec.getLsbD_and) s rd _ _⟩
  case or => exact ⟨_, rfl, writeAlu_bitwisePost (fun _ _ _ => BitVec.getLsbD_or) s rd _ _⟩
  case xor => exact ⟨_, rfl, writeAlu_bitwisePost (fun _ _ _ => BitVec.getLsbD_xor) s rd _ _⟩

end Sys2Proof.Machine

/-! # Proofs: the shifts and rotates on two registers, and the amounts that stop them -/

namespace Sys2Proof.Machine

section

variable {s : State} {imm : BitVec 3}

/-! ## The amount that is tested (R113, R180) -/

/-- A shift or rotate stops where the word it tests, the amount or a free word for it, is above 15. -/
theorem shift_of_above {f : Word → Nat → Word} {rd : BitVec 3} {a amount : Val Word} (h : 15 < (s.pick amount).toNat) :
    s.shift f rd a amount = .fault .shiftAmount := State.shift_fault.2 ⟨h, rfl⟩

/-- In a long form with ext13 at least 2 the amount is at least 16. -/
theorem pick_immSr_above {high : BitVec 13} (long : s.hasExt13 = true) (hext : s.ext13 = .known high) (two : 2 ≤ high.toNat) :
    15 < (s.pick (s.immSr imm)).toNat := by
  have highBound := high.isLt
  have lowBound := imm.isLt
  rw [immSr_eq_operandSr, operandSr, if_pos long, longValue, hext, Val.map_known, State.pick_known, BitVec.toNat_ofNat]
  omega

/-- In a short form the amount is an entry of the table of R15. -/
theorem operandSr_of_short (short : s.hasExt13 = false) :
    ∃ n, operandSr s imm = .known n ∧ 1 ≤ n.toNat ∧ n.toNat ≤ 8 := by
  rw [operandSr, short, if_neg Bool.false_ne_true]
  refine ⟨_, rfl, ?_⟩
  revert imm
  decide

/-! ## An UNDEFINED amount (R19) -/

theorem logicResult_undefined : logicResult .undefined = AluResult.undefined := rfl

/-- A shift or rotate by an UNDEFINED amount uses one free word, which decides whether it stops and is no part of the result. -/
theorem shift_undefined (s : State) (f : Word → Nat → Word) (rd : BitVec 3) (a : Val Word) :
    (15 < (Config.freeWord s.draws).toNat ∧ s.shift f rd a .undefined = .fault .shiftAmount) ∨
      ((Config.freeWord s.draws).toNat ≤ 15 ∧ ∃ t, s.shift f rd a .undefined = .next t ∧
        AluPost { s with draws := s.draws + 1 } t rd AluResult.undefined) := by
  rcases Nat.lt_or_ge 15 (Config.freeWord s.draws).toNat with above | fits
  case inl => exact .inl ⟨above, shift_of_above above⟩
  case inr =>
    refine .inr ⟨fits, _, State.shift_next.2 ⟨fits, rfl⟩, ?_⟩
    rw [Val.map2_undefined_right, logicResult_undefined, State.picked_undefined]
    exact writeAlu_aluPost _ rd _

end

/-! ## The statements -/

/-- Settles O32: each shift in bits, by a defined amount of at most 15, is the one in numbers. -/
theorem shiftRegisterResult : Obligations.ShiftRegisterResult := by
  intro s rd ra rb n hn h
  simp only [exec, execSll, execSrl, execSra, execRol, hn]
  refine ⟨?sll, ?srl, ?sra, ?rol⟩
  case sll => exact shift_aluPost h (shiftLeft_eq · _) s rd _
  case srl => exact shift_aluPost h (shiftRightLogical_eq · _) s rd _
  case sra => exact shift_aluPost h (shiftRightArith_eq · _) s rd _
  case rol => exact shift_aluPost h (rotateLeft_eq · _ h) s rd _

/-- Settles O34: the word tested is the amount register, or the immediate, which only a long form brings above 15. -/
theorem shiftAmountAboveFifteen : Obligations.ShiftAmountAboveFifteen := by
  intro s rd ra
  refine ⟨fun rb n hn above => ?register, fun imm high long hext two => ?long, fun imm => operandSr_of_short⟩
  case register =>
    have tested : 15 < (s.pick (s.reg rb)).toNat := by rwa [hn]
    exact ⟨shift_of_above tested, shift_of_above tested, shift_of_above tested, shift_of_above tested⟩
  case long =>
    have tested : 15 < (s.pick (s.immSr imm)).toNat := pick_immSr_above long hext two
    exact ⟨shift_of_above tested, shift_of_above tested, shift_of_above tested, shift_of_above tested⟩

/-- Settles O35: all four are the one shared operation, with an UNDEFINED amount. -/
theorem undefinedShiftAmount : Obligations.UndefinedShiftAmount := by
  intro s rd ra rb hrb
  have stopsOrGoesOn (f : Word → Nat → Word) := shift_undefined s f rd (s.reg ra)
  simp only [← hrb] at stopsOrGoesOn
  simp only [List.forall_mem_cons]
  exact ⟨stopsOrGoesOn shiftLeft, stopsOrGoesOn shiftRightLogical, stopsOrGoesOn shiftRightArith, stopsOrGoesOn rotateLeft,
    by simp⟩

end Sys2Proof.Machine

/-! # Proofs: NOP -/

namespace Sys2Proof

variable {w : Word}

/-! ## The row of NOP in the branch format (R109, R122) -/

/-- With F = 0 and cond = 111 the offset must be 0. -/
theorem decode_encodeB_nopOffset {g : BitVec 8} (h : g ≠ 0x00#8) : decode (encodeB 0b0111#4 g) = .error .nopOffset := by
  rw [decode_encodeB, decodeBranch, Laws.fieldCond_encodeB, Laws.field8_encodeB]
  exact if_neg h

/-- The words 0xB700 to 0xB7FF are those of format B with F = 0 and cond = 111. -/
theorem encodeB_of_nopRange (low : 0xB700 ≤ w.toNat) (high : w.toNat ≤ 0xB7FF) : encodeB 0b0111#4 (field8 w) = w := by
  have major : (fieldMajor w).toNat / 2 = 0b1011 := by rw [fieldMajor_toNat]; omega
  have cond : fieldCond w = 0b0111#4 := BitVec.eq_of_toNat_eq (by rw [fieldCond_toNat, BitVec.toNat_ofNat]; omega)
  exact encodeB_of major cond rfl

theorem decode_of_nopRange (low : 0xB701 ≤ w.toNat) (high : w.toNat ≤ 0xB7FF) : decode w = .error .nopOffset := by
  have offset : field8 w ≠ 0x00#8 := fun zero => by
    have low8 := field8_toNat w
    rw [zero, BitVec.toNat_ofNat] at low8
    omega
  rw [← encodeB_of_nopRange (by omega) high]
  exact decode_encodeB_nopOffset offset

end Sys2Proof

namespace Sys2Proof.Machine

/-- The default advance assigns PC as a jump to the next word would. -/
theorem advance_jumpPost (s : State) : JumpPost s s.advance (s.pc + 1#16) := jumpTo_jumpPost s s.nextPc

/-- Settles O38: the word of NOP decodes to it, the other words of its row have an offset other than 0, and NOP is the default
advance alone. -/
theorem nopResult : Obligations.NopResult :=
  ⟨rfl, decodeEncodeRoundTrip .nop rfl, fun _ => decode_of_nopRange, fun s => ⟨s.advance, rfl, advance_jumpPost s⟩⟩

end Sys2Proof.Machine

/-! # Proofs: the window instructions

With a defined value each of the four is one window move, which the value alone stops or lets go on (R200). -/

namespace Sys2Proof.Machine

section

variable {s u : State} {rd rb : BitVec 3} {imm : BitVec 5} {v : Word}

/-! ## The window move that each instruction is (R201 to R204) -/

theorem exec_adjw_known (legal : FieldLegal s imm) (operand : operandField s imm = .known v) :
    exec (.adjw imm) s = s.moveWindow v (s.w + v) id := by
  rw [exec, execAdjw, imm5_of_legal legal, operand, orFault_ok, State.picked_known, State.pick_known]

theorem exec_ldw_known (legal : FieldLegal s imm) (operand : operandField s imm = .known v) :
    exec (.ldw rd imm) s = s.moveWindow v (s.w + v) (·.setReg rd (.known s.w)) := by
  rw [exec, execLdw, imm5_of_legal legal, operand, orFault_ok, State.picked_known, State.pick_known]

theorem exec_stw_known (hrb : s.reg rb = .known v) : exec (.stw rb) s = s.moveWindow v v id := by
  rw [exec, execStw, hrb, State.picked_known, State.pick_known]

theorem exec_xchw_known (hrb : s.reg rb = .known v) :
    exec (.xchw rd rb) s = s.moveWindow v v (·.setReg rd (.known s.w)) := by
  rw [exec, execXchw, hrb, State.picked_known, State.pick_known]

/-! ## What a window move does (R200) -/

/-- With a value that is no multiple of 8 it stops, whatever the instruction would have written. -/
theorem moveWindow_of_misaligned (misaligned : v.toNat % 8 ≠ 0) (s : State) (target : Word) (k : State → State) :
    s.moveWindow v target k = .fault .windowAlignment :=
  State.moveWindow_fault.2 ⟨mt (low3_zero_iff v).1 misaligned, rfl⟩

/-- With a multiple of 8 it assigns W, and no memory word. -/
theorem moveWindow_windowPost (aligned : v.toNat % 8 = 0) (s : State) (target : Word) :
    ∃ t, s.moveWindow v target id = .next t ∧ WindowPost s t target :=
  ⟨_, State.moveWindow_next.2 ⟨(low3_zero_iff v).2 aligned, rfl⟩,
    rfl, rfl, rfl, rfl, rfl, rfl, rfl, ⟨rfl, rfl⟩, fun _ => rfl⟩

/-- Where it saves the old W it does so after W is assigned, so the one word written is Rd of the new window. -/
theorem moveWindow_windowSavePost (aligned : v.toNat % 8 = 0) (s : State) (target : Word) (rd : BitVec 3) :
    ∃ t, s.moveWindow v target (·.setReg rd (.known s.w)) = .next t ∧ WindowSavePost s t target rd :=
  have saved := State.reg_setReg_same { s with w := target } rd (.known s.w)
  ⟨_, State.moveWindow_next.2 ⟨(low3_zero_iff v).2 aligned, rfl⟩,
    rfl, saved, rfl, rfl, rfl, rfl, rfl, rfl, ⟨rfl, rfl⟩, fun _ other => Memory.read_write_other s.mem (.known s.w) other⟩

/-! ## A frame of its own (R205) -/

/-- No register of a window is a word of the frame of eight below it. -/
theorem State.regAddr_ne_frameBelow (s : State) (r rd : BitVec 3) : s.regAddr r ≠ s.w - 8#16 + rd.setWidth 16 := by
  unfold State.regAddr
  bv_omega

/-- Where W is the same and no word but one of the frame below changed, every register is the same. -/
theorem reg_eq_of_frameBelow (window : u.w = s.w) (frame : SameMemBut s u (s.w - 8#16 + rd.setWidth 16))
    (r : BitVec 3) : u.reg r = s.reg r := by
  have addr : u.regAddr r = s.regAddr r := by rw [State.regAddr, window, State.regAddr]
  rw [State.reg_eq, addr]
  exact frame _ (s.regAddr_ne_frameBelow r rd)

end

/-! ## The statements -/

/-- Settles O40: both are the window move by the operand, which LDW makes with a save. -/
theorem adjustWindowResult : Obligations.AdjustWindowResult := by
  intro s rd imm v legal operand aligned
  rw [exec_adjw_known legal operand, exec_ldw_known legal operand]
  exact ⟨moveWindow_windowPost aligned s _, moveWindow_windowSavePost aligned s _ rd⟩

/-- Settles O41: both are the window move to the word of Rb, which XCHW makes with a save. -/
theorem loadWindowResult : Obligations.LoadWindowResult := by
  intro s rd rb v hrb aligned
  rw [exec_stw_known hrb, exec_xchw_known hrb]
  exact ⟨moveWindow_windowPost aligned s _, moveWindow_windowSavePost aligned s _ rd⟩

/-- Settles O42: all four are window moves, and the move tests the value given. -/
theorem windowAlignmentFaults : Obligations.WindowAlignmentFaults := by
  intro s v misaligned
  have stops := moveWindow_of_misaligned misaligned s
  refine ⟨fun rd imm legal operand => ?immediate, fun rd rb hrb => ?register⟩
  case immediate =>
    rw [exec_adjw_known legal operand, exec_ldw_known legal operand]
    exact ⟨stops _ _, stops _ _⟩
  case register =>
    rw [exec_stw_known hrb, exec_xchw_known hrb]
    exact ⟨stops _ _, stops _ _⟩

/-- Settles O44: LDW leaves the old W in the register that STW then loads W from, and of all words wrote that register alone,
which is none of the old window. -/
theorem windowSaveRestore : Obligations.WindowSaveRestore := by
  intro s rd aligned short
  have legal : FieldLegal s 0b11000#5 := fun long => absurd (short ▸ long) Bool.false_ne_true
  have minus8 : operandField s 0b11000#5 = .known (-8#16) := operandField_of_short _ short
  obtain ⟨-, t, prologue, -, saved, pc, flags, -, -, -, -, -, wrote⟩ :=
    adjustWindowResult s rd 0b11000#5 _ legal minus8 (by decide)
  obtain ⟨⟨u, epilogue, window, pc', flags', -, -, -, -, -, kept⟩, -⟩ := loadWindowResult t rd rd s.w saved aligned
  rw [← BitVec.sub_eq_add_neg] at wrote
  have frame : SameMemBut s u (s.w - 8#16 + rd.setWidth 16) := fun b other => (kept b).trans (wrote b other)
  refine ⟨u, ?_, window, reg_eq_of_frameBelow window frame, flags'.trans flags, ?_, frame⟩
  · rw [execAll_cons prologue, execAll_cons epilogue, execAll]
  · rw [pc', pc, BitVec.add_assoc]
    rfl

end Sys2Proof.Machine

/-! # Proofs: loads and stores

A load is one register write of the word at its address, a store one memory write at its address. What is said here of each is its
address (R210 (d)), and the word read there, as the statements write them out. -/

namespace Sys2Proof.Machine

section

variable {s t : State} {rd ra : BitVec 3} {off : BitVec 5}

/-! ## The word a load reads, UNDEFINED where its register or its operand is (R210 (h)) -/

theorem readAt_regPlus (s : State) (ra : BitVec 3) (off : Val Word) :
    s.mem.readAt (s.regPlus ra off) = (s.reg ra).bind fun a => off.bind fun o => s.mem.read (a + o) := by
  rw [State.regPlus]
  cases s.reg ra <;> cases off <;> rfl

theorem readAt_pcPlusReg (s : State) (ra : BitVec 3) (off : Val Word) :
    s.mem.readAt (s.pcPlusReg ra off) =
      (s.reg ra).bind fun a => off.bind fun o => s.mem.read (s.pc + 1#16 + o + a) := by
  rw [State.pcPlusReg]
  cases s.reg ra <;> cases off <;> rfl

/-! ## The load instructions -/

/-- LD goes on exactly with a legal field, with a load at the register plus the operand (R211). -/
theorem exec_ld_next : exec (.ld rd ra off) s = .next t ↔
    FieldLegal s off ∧ s.load rd (s.regPlus ra (operandField s off)) = t :=
  orFault_imm5_next.trans (and_congr_right fun _ => ⟨Host.Outcome.next.inj, congrArg _⟩)

/-- LDR goes on exactly with a legal field, with a load at `PC + 1` plus the operand plus the register (R212). -/
theorem exec_ldr_next : exec (.ldr rd ra off) s = .next t ↔
    FieldLegal s off ∧ s.load rd (s.pcPlusReg ra (operandField s off)) = t :=
  orFault_imm5_next.trans (and_congr_right fun _ => ⟨Host.Outcome.next.inj, congrArg _⟩)

/-- The end of a load, whether or not its address is defined. -/
theorem load_regPost (s : State) (rd : BitVec 3) (addr : Val Word) :
    RegPost s (s.load rd addr) rd (s.mem.readAt addr) (s.pc + 1#16) :=
  setReg_advance_regPost s rd _

end

/-! ## The statements -/

/-- Settles O45: a legal field gives the operand, and each load writes Rd alone, with the word at its address. -/
theorem loadResult : Obligations.LoadResult := by
  intro s rd ra off legal
  refine ⟨⟨_, exec_ld_next.2 ⟨legal, rfl⟩, ?ld⟩, ⟨_, exec_ldr_next.2 ⟨legal, rfl⟩, ?ldr⟩⟩
  case ld =>
    rw [← readAt_regPlus]
    exact load_regPost s rd _
  case ldr =>
    rw [← readAt_pcPlusReg]
    exact load_regPost s rd _

/-- Settles O46: each store with a defined address writes the word there alone, with what Rs holds, the mark UNDEFINED too. -/
theorem storeResult : Obligations.StoreResult :=
  fun s rs _ _ _ _ legal operand base =>
    ⟨⟨_, exec_st_known legal operand base, storeReg_storePost s rs _⟩,
      ⟨_, exec_str_known legal operand base, storeReg_storePost s rs _⟩⟩

end Sys2Proof.Machine

/-! # Proofs: the unconditional jumps

Each of the six assigns PC its target, and JAL and JRAL write the link first (R230). What is said here of each is its target, and
that the target is defined where the values it is computed from are. -/

namespace Sys2Proof.Machine

section

variable {s t : State} {rd r : BitVec 3} {a o x d : Word}

/-! ## The jump that each instruction is (R231 to R236) -/

section

variable {off : BitVec 8}

/-- J goes on exactly with a legal field, with a jump to `PC + 1` plus the operand (R231). -/
theorem exec_j_next : exec (.j off) s = .next t ↔ FieldLegal s off ∧ s.jumpTo (s.pcPlus (operandField s off)) = t :=
  orFault_imm8_next.trans (and_congr_right fun _ => ⟨Host.Outcome.next.inj, congrArg _⟩)

/-- JAL goes on exactly with a legal field, with the jump of J after the link is written (R232). -/
theorem exec_jal_next : exec (.jal rd off) s = .next t ↔
    FieldLegal s off ∧ (s.setReg rd (.known (s.pc + 1#16))).jumpTo (s.pcPlus (operandField s off)) = t :=
  orFault_imm8_next.trans (and_congr_right fun _ => ⟨Host.Outcome.next.inj, congrArg _⟩)

end

section

variable {off : BitVec 5}

/-- JR goes on exactly with a legal field, with a jump to the register plus the operand (R233). -/
theorem exec_jr_next : exec (.jr r off) s = .next t ↔ FieldLegal s off ∧ s.jumpTo (s.regPlus r (operandField s off)) = t :=
  orFault_imm5_next.trans (and_congr_right fun _ => ⟨Host.Outcome.next.inj, congrArg _⟩)

/-- JST goes on exactly with a legal field, with a jump by the table at `PC + 1` plus the operand (R235). -/
theorem exec_jst_next : exec (.jst r off) s = .next t ↔
    FieldLegal s off ∧ s.jumpTo (s.switchTarget r (operandField s off)) = t :=
  orFault_imm5_next.trans (and_congr_right fun _ => ⟨Host.Outcome.next.inj, congrArg _⟩)

/-- JVT goes on exactly with a legal field, with a jump by the table whose address is in the register (R236). -/
theorem exec_jvt_next : exec (.jvt r off) s = .next t ↔
    FieldLegal s off ∧ s.jumpTo (s.virtualTarget r (operandField s off)) = t :=
  orFault_imm5_next.trans (and_congr_right fun _ => ⟨Host.Outcome.next.inj, congrArg _⟩)

end

/-- JRAL has no field: it always goes on, to the word that Rb held before the link was written (R234). -/
theorem exec_jral (rd r : BitVec 3) (s : State) :
    exec (.jral rd r) s = .next ((s.setReg rd (.known (s.pc + 1#16))).jumpTo (s.reg r)) := rfl

/-! ## The targets, from defined values -/

theorem pcPlus_known (s : State) (o : Word) : s.pcPlus (.known o) = .known (s.pc + 1#16 + o) := rfl

theorem regPlus_known (base : s.reg r = .known a) (o : Word) : s.regPlus r (.known o) = .known (a + o) := by
  rw [State.regPlus, base, Val.map2_known]

/-- The entry of JST's table is at the table's address plus the register. -/
theorem pcPlusReg_known (index : s.reg r = .known x) (o : Word) :
    s.pcPlusReg r (.known o) = .known (s.pc + 1#16 + o + x) := by
  rw [State.pcPlusReg, pcPlus_known, index, Val.map2_known]

theorem switchTarget_known (index : s.reg r = .known x) (entry : s.mem.read (s.pc + 1#16 + o + x) = .known d) :
    s.switchTarget r (.known o) = .known (s.pc + 1#16 + o + d) := by
  rw [State.switchTarget, pcPlusReg_known index, Memory.readAt, Val.bind_known, entry, pcPlus_known, Val.map2_known]

theorem virtualTarget_known (table : s.reg r = .known x) (entry : s.mem.read (x + o) = .known d) :
    s.virtualTarget r (.known o) = .known (x + d) := by
  rw [State.virtualTarget, regPlus_known table, Memory.readAt, Val.bind_known, entry, table, Val.map2_known]

end

/-! ## The statements -/

/-- Settles O50: both jump to `PC + 1` plus the operand, JAL with the link in Rd. -/
theorem jumpResult : Obligations.JumpResult := by
  intro s rd off o legal operand
  refine ⟨⟨_, exec_j_next.2 ⟨legal, rfl⟩, ?j⟩, ⟨_, exec_jal_next.2 ⟨legal, rfl⟩, ?jal⟩⟩
  case j =>
    rw [operand, pcPlus_known]
    exact jumpTo_jumpPost s _
  case jal =>
    rw [operand, pcPlus_known]
    exact setReg_jumpTo_regPost s rd _ _

/-- Settles O51: the target of JR has no PC in it, and that of JRAL is the register before the link, whether or not Rd is Rb. -/
theorem jumpRegisterResult : Obligations.JumpRegisterResult := by
  intro s rd r off a base
  refine ⟨fun o legal operand => ⟨_, exec_jr_next.2 ⟨legal, rfl⟩, ?jr⟩, ⟨_, exec_jral rd r s, ?jral⟩⟩
  case jr =>
    rw [operand, regPlus_known base]
    exact jumpTo_jumpPost s _
  case jral =>
    rw [base]
    exact setReg_jumpTo_regPost s rd _ _

/-- Settles O52: in JST the register is the index and the operand gives the table, in JVT the other way round; both jump to the
table plus its entry. -/
theorem tableJumpResult : Obligations.TableJumpResult := by
  intro s rs off x o d legal operand hrs
  refine ⟨fun entry => ⟨_, exec_jst_next.2 ⟨legal, rfl⟩, ?jst⟩, fun entry => ⟨_, exec_jvt_next.2 ⟨legal, rfl⟩, ?jvt⟩⟩
  case jst =>
    rw [operand, switchTarget_known hrs entry]
    exact jumpTo_jumpPost s _
  case jvt =>
    rw [operand, virtualTarget_known hrs entry]
    exact jumpTo_jumpPost s _

end Sys2Proof.Machine

/-! # Proofs: everything an instruction can answer

R303: it goes on, or it stops for one of four reasons. Said once for each shared operation that can stop, then of every
instruction. -/

namespace Sys2Proof.Machine

section

variable {i : Instr} {s : State}

/-- What instruction `i` may answer in state `s`: it goes on, or it stops for a reason of R303 under that reason's condition. -/
inductive MayAnswer (i : Instr) (s : State) : Answer → Prop
  /-- It goes on. -/
  | next (t : State) : MayAnswer i s (.next t)
  /-- Its field is not legal (R117). -/
  | longFormFieldBits (n : Nat) (long : s.hasExt13 = true) (field : i.wideField = some n) (high : 8 ≤ n) :
      MayAnswer i s (.fault .longFormFieldBits)
  /-- The amount it tests is above 15 (R180). -/
  | shiftAmount (a : Val Word) (tested : testedAmount s i = some a) (above : 15 < (s.pick a).toNat) :
      MayAnswer i s (.fault .shiftAmount)
  /-- The value it gives to W is no multiple of 8 (R200 (c)). -/
  | windowAlignment (v : Val Word) (given : givenWindow s i = some v) (misaligned : (s.pick v).toNat % 8 ≠ 0) :
      MayAnswer i s (.fault .windowAlignment)
  /-- Its operand is entry 3 of the table of R14, which was not supplied (R303). -/
  | immAl3Unset (entry : i.alField = some 3#3) (short : s.hasExt13 = false) (unset : s.platform.immAl3 = none) :
      MayAnswer i s (.fault .immAl3Unset)

/-! ## What each shared operation may answer -/

theorem mayAnswer_imm5 {f : BitVec 5} {k : Val Word → Answer} (field : i.wideField = some f.toNat)
    (rest : MayAnswer i s (k (operandField s f))) : MayAnswer i s (orFault (s.imm5 f) k) := by
  rcases fieldLegal_or s f with legal | ⟨long, high⟩
  case inl => rwa [imm5_of_legal legal, orFault_ok]
  case inr =>
    rw [orFault_imm5_illegal long high]
    exact .longFormFieldBits _ long field high

theorem mayAnswer_imm8 {f : BitVec 8} {k : Val Word → Answer} (field : i.wideField = some f.toNat)
    (rest : MayAnswer i s (k (operandField s f))) : MayAnswer i s (orFault (s.imm8 f) k) := by
  rcases fieldLegal_or s f with legal | ⟨long, high⟩
  case inl => rwa [imm8_of_legal legal, orFault_ok]
  case inr =>
    rw [orFault_imm8_illegal long high]
    exact .longFormFieldBits _ long field high

/-- An operation with an arithmetic or logic immediate that goes on with every operand. -/
theorem mayAnswer_immAl {imm : BitVec 3} {next : Val Word → State} (entry : i.alField = some imm) :
    MayAnswer i s (orFault (s.immAl imm) fun v => .next (next v)) := by
  cases operand : operandAl s imm with
  | some v =>
    rw [orFault_immAl_some operand]
    exact .next _
  | none =>
    obtain ⟨rfl, short, unset⟩ := operandAl_none.1 operand
    rw [orFault_immAl_none operand]
    exact .immAl3Unset entry short unset

theorem mayAnswer_shift {f : Word → Nat → Word} {rd : BitVec 3} {a amount : Val Word}
    (tested : testedAmount s i = some amount) : MayAnswer i s (s.shift f rd a amount) := by
  rcases Nat.lt_or_ge 15 (s.pick amount).toNat with above | fits
  case inl =>
    rw [shift_of_above above]
    exact .shiftAmount _ tested above
  case inr =>
    rw [State.shift_next.2 ⟨fits, rfl⟩]
    exact .next _

/-- An immediate amount is the operand that the statement names. -/
theorem mayAnswer_shiftImmediate {f : Word → Nat → Word} {rd imm : BitVec 3} {a : Val Word}
    (tested : testedAmount s i = some (operandSr s imm)) : MayAnswer i s (s.shift f rd a (s.immSr imm)) :=
  mayAnswer_shift (immSr_eq_operandSr s imm ▸ tested)

theorem mayAnswer_moveWindow {v : Val Word} {target : Word} {k : State → State} (given : givenWindow s i = some v) :
    MayAnswer i s ((s.picked v).moveWindow (s.pick v) target k) := by
  by_cases aligned : (s.pick v).toNat % 8 = 0
  case pos =>
    rw [State.moveWindow_next.2 ⟨(low3_zero_iff _).2 aligned, rfl⟩]
    exact .next _
  case neg =>
    rw [moveWindow_of_misaligned aligned]
    exact .windowAlignment _ given aligned

end

/-! ## What each instruction may answer -/

theorem exec_mayAnswer (i : Instr) (s : State) : MayAnswer i s (exec i s) := by
  cases i
  case add | adc | sub | sbc | cmp | and | or | xor | exti | nop | jral => exact .next _
  case addi | adci | subi | sbci | cmpi | andi | ori | xori => exact mayAnswer_immAl rfl
  case sll | srl | sra | rol => exact mayAnswer_shift rfl
  case slli | srli | srai | roli => exact mayAnswer_shiftImmediate rfl
  case adjw | ldw => exact mayAnswer_imm5 rfl (mayAnswer_moveWindow rfl)
  case stw | xchw =>
    simp only [exec, execStw, execXchw]
    exact mayAnswer_moveWindow rfl
  case ld | ldr | st | str | ldx | stx | jr | jst | jvt => exact mayAnswer_imm5 rfl (.next _)
  case movi | movr | ldxa | stxa | j | jal
    | beq | bne | bz | bnz | bs | bns | bc | bnc | bv | bnv | bgeu | bltu | bgts | bgtu | bges | bles | bleu | blts
    | bz1 | bz0 | bs1 | bs0 | bc1 | bc0 | bv1 | bv0 => exact mayAnswer_imm8 rfl (.next _)

/-! ## The statement -/

/-- Settles O24: every answer of an instruction is one of `MayAnswer`, none of which refuses. -/
theorem execOutcomes : Obligations.ExecOutcomes := by
  intro i s
  have answer := exec_mayAnswer i s
  generalize exec i s = a at answer ⊢
  cases answer with
  | next t => exact .inl ⟨t, rfl⟩
  | longFormFieldBits n long field high => exact .inr (.inl ⟨rfl, long, n, field, high⟩)
  | shiftAmount a tested above => exact .inr (.inr (.inl ⟨rfl, a, tested, above⟩))
  | windowAlignment v given misaligned => exact .inr (.inr (.inr (.inl ⟨rfl, v, given, misaligned⟩)))
  | immAl3Unset entry short unset => exact .inr (.inr (.inr (.inr ⟨rfl, entry, short, unset⟩)))

end Sys2Proof.Machine

/-! # Proofs: the conditional branches

Each of the 26 is the one shared operation on its condition (R240); what is said here of each condition is its value where the
flags it reads are defined (R109), and that it is UNDEFINED where one of them is (R19). -/

namespace Sys2Proof.Machine

section

variable {s : State} {f : Flags} {cond : Val Bool} {off : BitVec 8} {o : Word} {i : Instr} {z n c v x : Bool}

/-! ## The conditions on defined flags -/

theorem notBit_known (hcond : cond = .known x) : notBit cond = .known (!x) := by rw [hcond, notBit, Val.map_known]

theorem Flags.leu_known (hc : f.c = .known c) (hz : f.z = .known z) : f.leu = .known (!c || z) := by
  rw [Flags.leu, notBit_known hc, hz, orBit, Val.map2_known]

theorem Flags.lts_known (hs : f.s = .known n) (hv : f.v = .known v) : f.lts = .known (n != v) := by
  rw [Flags.lts, hs, hv, xorBit, Val.map2_known]

theorem Flags.les_known (hs : f.s = .known n) (hv : f.v = .known v) (hz : f.z = .known z) :
    f.les = .known (n != v || z) := by
  rw [Flags.les_eq, Flags.lts_known hs hv, hz, orBit, Val.map2_known]

/-! ## The conditions that read an UNDEFINED flag -/

theorem notBit_undefined (hcond : cond = .undefined) : notBit cond = .undefined := by
  rw [hcond, notBit, Val.map_undefined]

theorem Flags.leu_undefined (h : f.c = .undefined ∨ f.z = .undefined) : f.leu = .undefined := by
  rcases h with hc | hz
  case inl => rw [Flags.leu, notBit_undefined hc, orBit, Val.map2_undefined_left]
  case inr => rw [Flags.leu, hz, orBit, Val.map2_undefined_right]

theorem Flags.lts_undefined (h : f.s = .undefined ∨ f.v = .undefined) : f.lts = .undefined := by
  rcases h with hs | hv
  case inl => rw [Flags.lts, hs, xorBit, Val.map2_undefined_left]
  case inr => rw [Flags.lts, hv, xorBit, Val.map2_undefined_right]

theorem Flags.les_undefined (h : f.lts = .undefined ∨ f.z = .undefined) : f.les = .undefined := by
  rcases h with hlts | hz
  case inl => rw [Flags.les_eq, hlts, orBit, Val.map2_undefined_left]
  case inr => rw [Flags.les_eq, hz, orBit, Val.map2_undefined_right]

/-- A branch with a legal field and an UNDEFINED condition is the branch on a free bit, in the state with one more free value
used. -/
theorem branch_freeBranchPost (legal : FieldLegal s off) (operand : operandField s off = .known o)
    (hcond : cond = .undefined) (run : exec i s = s.branch cond off) : FreeBranchPost i s o := by
  have free : s.branch cond off
      = { s with draws := s.draws + 1 }.branch (.known (Config.freeBit s.draws)) off := by rw [hcond]; rfl
  rw [FreeBranchPost, run, free]
  exact branch_jumpPost legal operand rfl

end

/-! ## The statements -/

/-- Settles O54: the condition is the one flag or its negation. -/
theorem flagBranchResult : Obligations.FlagBranchResult := by
  intro s off o x legal operand
  have onFlag {flag : Val Bool} (hflag : flag = .known x) := branch_jumpPost legal operand hflag
  have onNegation {flag : Val Bool} (hflag : flag = .known x) := branch_jumpPost legal operand (notBit_known hflag)
  simp only [List.forall_mem_cons]
  refine ⟨fun z => ⟨⟨?bz1, ?beq, ?bz, by simp⟩, ?bz0, ?bne, ?bnz, by simp⟩,
    fun n => ⟨⟨?bs1, ?bs, by simp⟩, ?bs0, ?bns, by simp⟩,
    fun c => ⟨⟨?bc1, ?bc, ?bgeu, by simp⟩, ?bc0, ?bnc, ?bltu, by simp⟩,
    fun v => ⟨⟨?bv1, ?bv, by simp⟩, ?bv0, ?bnv, by simp⟩⟩
  case bz1 | beq | bz => exact onFlag z
  case bz0 | bne | bnz => exact onNegation z
  case bs1 | bs => exact onFlag n
  case bs0 | bns => exact onNegation n
  case bc1 | bc | bgeu => exact onFlag c
  case bc0 | bnc | bltu => exact onNegation c
  case bv1 | bv => exact onFlag v
  case bv0 | bnv => exact onNegation v

/-- Settles O55: BLEU, BLTS and BLES branch on the conditions of R109; BGTU, BGES and BGTS on their negations. -/
theorem orderBranchResult : Obligations.OrderBranchResult := by
  intro s off o z n c v legal operand
  have on {cond : Val Bool} {taken : Bool} (hcond : cond = .known taken) := branch_jumpPost legal operand hcond
  have gtu : (!(!c || z)) = (c && !z) := by rw [Bool.not_or, Bool.not_not]
  have ges : (!(n != v)) = (n == v) := Bool.not_not _
  have gts : (!(n != v || z)) = (n == v && !z) := by rw [Bool.not_or, ges]
  refine ⟨fun hc hz => ⟨?bgtu, ?bleu⟩, fun hs hv => ⟨?bges, ?blts⟩, fun hs hv hz => ⟨?bgts, ?bles⟩⟩
  case bleu => exact on (Flags.leu_known hc hz)
  case blts => exact on (Flags.lts_known hs hv)
  case bles => exact on (Flags.les_known hs hv hz)
  case bgtu => exact gtu ▸ on (notBit_known (Flags.leu_known hc hz))
  case bges => exact ges ▸ on (notBit_known (Flags.lts_known hs hv))
  case bgts => exact gts ▸ on (notBit_known (Flags.les_known hs hv hz))

/-- Settles O56: a condition that reads an UNDEFINED flag is UNDEFINED, and so is its negation. -/
theorem branchOnUndefinedFlag : Obligations.BranchOnUndefinedFlag := by
  intro s off o legal operand
  have on {i : Instr} {cond : Val Bool} (hcond : cond = .undefined) :=
    branch_freeBranchPost (i := i) legal operand hcond
  have onNegation {i : Instr} {cond : Val Bool} (hcond : cond = .undefined) :=
    branch_freeBranchPost (i := i) legal operand (notBit_undefined hcond)
  simp only [List.forall_mem_cons]
  refine ⟨fun hz => ?z, fun hs => ?s, fun hc => ?c, fun hv => ?v⟩
  case z =>
    have leu := Flags.leu_undefined (.inr hz)
    have les := Flags.les_undefined (.inr hz)
    refine ⟨?bz1, ?bz0, ?beq, ?bne, ?bz, ?bnz, ?bgtu, ?bleu, ?bgts, ?bles, by simp⟩
    case bz1 | beq | bz => exact on hz rfl
    case bz0 | bne | bnz => exact onNegation hz rfl
    case bleu => exact on leu rfl
    case bgtu => exact onNegation leu rfl
    case bles => exact on les rfl
    case bgts => exact onNegation les rfl
  case s =>
    have lts := Flags.lts_undefined (.inl hs)
    have les := Flags.les_undefined (.inl lts)
    refine ⟨?bs1, ?bs0, ?bs, ?bns, ?bges, ?blts, ?bgts, ?bles, by simp⟩
    case bs1 | bs => exact on hs rfl
    case bs0 | bns => exact onNegation hs rfl
    case blts => exact on lts rfl
    case bges => exact onNegation lts rfl
    case bles => exact on les rfl
    case bgts => exact onNegation les rfl
  case c =>
    have leu := Flags.leu_undefined (.inl hc)
    refine ⟨?bc1, ?bc0, ?bc, ?bnc, ?bgeu, ?bltu, ?bgtu, ?bleu, by simp⟩
    case bc1 | bc | bgeu => exact on hc rfl
    case bc0 | bnc | bltu => exact onNegation hc rfl
    case bleu => exact on leu rfl
    case bgtu => exact onNegation leu rfl
  case v =>
    have lts := Flags.lts_undefined (.inr hv)
    have les := Flags.les_undefined (.inl lts)
    refine ⟨?bv1, ?bv0, ?bv, ?bnv, ?bges, ?blts, ?bgts, ?bles, by simp⟩
    case bv1 | bv => exact on hv rfl
    case bv0 | bnv => exact onNegation hv rfl
    case blts => exact on lts rfl
    case bges => exact onNegation lts rfl
    case bles => exact on les rfl
    case bgts => exact onNegation les rfl

end Sys2Proof.Machine

/-! # Proofs: UNDEFINED words that steer the machine

An UNDEFINED word that is fetched, given to W, jumped to or stored through is a free word (logs 6, 8, 11). In each case the machine
does what it would do with that word as a defined one, in the state with one more free value used. -/

namespace Sys2Proof.Machine

section

variable {s : State} {rd r : BitVec 3} {o x : Word}

/-! ## The free word in the place of the mark -/

/-- A fetch of an UNDEFINED word takes a free word. -/
theorem State.fetch_undefined (hword : s.fetched = .undefined) :
    s.fetchWord = Config.freeWord s.draws ∧ s.afterFetch = { s with draws := s.draws + 1 } := by
  rw [State.fetchWord, State.afterFetch, hword]
  exact ⟨rfl, rfl⟩

theorem exec_stw_undefined (hr : s.reg r = .undefined) : exec (.stw r) s =
    { s with draws := s.draws + 1 }.moveWindow (Config.freeWord s.draws) (Config.freeWord s.draws) id := by
  rw [exec, execStw, hr, State.picked_undefined, State.pick_undefined]

theorem exec_xchw_undefined (hr : s.reg r = .undefined) : exec (.xchw rd r) s =
    { s with draws := s.draws + 1 }.moveWindow (Config.freeWord s.draws) (Config.freeWord s.draws)
      (·.setReg rd (.known s.w)) := by
  rw [exec, execXchw, hr, State.picked_undefined, State.pick_undefined]

theorem jumpTo_jumpPost_of_undefined {target : Val Word} (h : target = .undefined) :
    JumpPost { s with draws := s.draws + 1 } (s.jumpTo target) (Config.freeWord s.draws) :=
  h ▸ jumpTo_jumpPost { s with draws := s.draws + 1 } _

theorem setReg_jumpTo_regPost_of_undefined {target : Val Word} (h : target = .undefined) (v : Val Word) :
    RegPost { s with draws := s.draws + 1 } ((s.setReg rd v).jumpTo target) rd v (Config.freeWord s.draws) :=
  h ▸ setReg_jumpTo_regPost { s with draws := s.draws + 1 } rd v _

theorem storeReg_storePost_of_undefined {addr : Val Word} (h : addr = .undefined) :
    StorePost { s with draws := s.draws + 1 } (s.storeReg rd addr) (Config.freeWord s.draws) (s.reg rd) :=
  h ▸ storeReg_storePost { s with draws := s.draws + 1 } rd _

/-! ## The addresses that are UNDEFINED -/

theorem regPlus_undefined (hr : s.reg r = .undefined) (off : Val Word) : s.regPlus r off = .undefined := by
  rw [State.regPlus, hr, Val.map2_undefined_left]

theorem pcPlusReg_undefined (hr : s.reg r = .undefined) (off : Val Word) : s.pcPlusReg r off = .undefined := by
  rw [State.pcPlusReg, hr, Val.map2_undefined_right]

/-- JST's entry is UNDEFINED, because its index is. -/
theorem switchTarget_undefined (hr : s.reg r = .undefined) (off : Val Word) : s.switchTarget r off = .undefined := by
  rw [State.switchTarget, pcPlusReg_undefined hr, Memory.readAt, Val.bind_undefined, Val.map2_undefined_right]

theorem virtualTarget_undefined (hr : s.reg r = .undefined) (off : Val Word) : s.virtualTarget r off = .undefined := by
  rw [State.virtualTarget, hr, Val.map2_undefined_left]

theorem switchTarget_of_undefined_entry (index : s.reg r = .known x)
    (entry : s.mem.read (s.pc + 1#16 + o + x) = .undefined) : s.switchTarget r (.known o) = .undefined := by
  rw [State.switchTarget, pcPlusReg_known index, Memory.readAt, Val.bind_known, entry, Val.map2_undefined_right]

theorem virtualTarget_of_undefined_entry (table : s.reg r = .known x) (entry : s.mem.read (x + o) = .undefined) :
    s.virtualTarget r (.known o) = .undefined := by
  rw [State.virtualTarget, regPlus_known table, Memory.readAt, Val.bind_known, entry, Val.map2_undefined_right]

/-! ## The instructions that go to such an address, or store there -/

variable {t : State} {rs ra : BitVec 3} {off : BitVec 5}

/-- ST goes on exactly with a legal field, with a store at the register plus the operand (R213). -/
theorem exec_st_next : exec (.st rs ra off) s = .next t ↔
    FieldLegal s off ∧ s.storeReg rs (s.regPlus ra (operandField s off)) = t :=
  orFault_imm5_next.trans (and_congr_right fun _ => ⟨Host.Outcome.next.inj, congrArg _⟩)

/-- STR goes on exactly with a legal field, with a store at `PC + 1` plus the operand plus the register (R214). -/
theorem exec_str_next : exec (.str rs ra off) s = .next t ↔
    FieldLegal s off ∧ s.storeReg rs (s.pcPlusReg ra (operandField s off)) = t :=
  orFault_imm5_next.trans (and_congr_right fun _ => ⟨Host.Outcome.next.inj, congrArg _⟩)

end

/-! ## The statements -/

/-- Settles O11: the fetch takes the free word and uses it up, and the rest is the step of any word. -/
theorem stepOfUndefinedWord : Obligations.StepOfUndefinedWord := by
  intro s hword hpc
  obtain ⟨hfetch, hafter⟩ := State.fetch_undefined hword
  rw [← hfetch, ← hafter]
  exact ⟨fun i hdec ⟨_, hr⟩ hw => step_of_exist hdec hpc hr (.inl hw), fun why hdec => step_of_error hdec hpc⟩

/-- Settles O43: both are the window move to the free word, which XCHW makes with a save. -/
theorem undefinedWindowValue : Obligations.UndefinedWindowValue := by
  intro s rd rb hrb
  rw [exec_stw_undefined hrb, exec_xchw_undefined hrb]
  by_cases aligned : (Config.freeWord s.draws).toNat % 8 = 0
  case pos => exact .inr ⟨aligned, moveWindow_windowPost aligned _ _, moveWindow_windowSavePost aligned _ _ rd⟩
  case neg => exact .inl ⟨aligned, moveWindow_of_misaligned aligned _ _ _, moveWindow_of_misaligned aligned _ _ _⟩

/-- Settles O53: an address computed from an UNDEFINED register or table word is UNDEFINED, and a jump to it or a store there is
one to the free word. -/
theorem undefinedAddress : Obligations.UndefinedAddress := by
  intro s rd r off legal
  simp only [List.forall_mem_cons]
  refine ⟨fun hr => ⟨⟨?jr, ?jst, ?jvt, by simp⟩, ?jral, ?st, ?str, by simp⟩,
    fun x o hr operand => ⟨fun entry => ?switch, fun entry => ?virtual⟩⟩
  case jr => exact ⟨_, exec_jr_next.2 ⟨legal, rfl⟩, jumpTo_jumpPost_of_undefined (regPlus_undefined hr _)⟩
  case jst => exact ⟨_, exec_jst_next.2 ⟨legal, rfl⟩, jumpTo_jumpPost_of_undefined (switchTarget_undefined hr _)⟩
  case jvt => exact ⟨_, exec_jvt_next.2 ⟨legal, rfl⟩, jumpTo_jumpPost_of_undefined (virtualTarget_undefined hr _)⟩
  case jral => exact ⟨_, exec_jral rd r s, setReg_jumpTo_regPost_of_undefined hr _⟩
  case st => exact ⟨_, exec_st_next.2 ⟨legal, rfl⟩, storeReg_storePost_of_undefined (regPlus_undefined hr _)⟩
  case str => exact ⟨_, exec_str_next.2 ⟨legal, rfl⟩, storeReg_storePost_of_undefined (pcPlusReg_undefined hr _)⟩
  case switch =>
    have target := switchTarget_of_undefined_entry hr entry
    exact ⟨_, exec_jst_next.2 ⟨legal, rfl⟩, jumpTo_jumpPost_of_undefined (operand ▸ target)⟩
  case virtual =>
    have target := virtualTarget_of_undefined_entry hr entry
    exact ⟨_, exec_jvt_next.2 ⟨legal, rfl⟩, jumpTo_jumpPost_of_undefined (operand ▸ target)⟩

end Sys2Proof.Machine
